-- ==== Sys2Proof/Word.lean ====
section
/-! DEFINITION. The word types of the ZT2408: a link or host byte, a 16-bit memory word, a 32-bit host word. -/

namespace Sys2Proof

/-- One byte: a lane of a host word, or a byte of the configuration link. -/
abbrev Byte := BitVec 8

/-- One 16-bit memory word (00_scope.md, Conventions). -/
abbrev Word := BitVec 16

/-- One 32-bit host word of four lanes (00_scope.md, Conventions). -/
abbrev HostWord := BitVec 32

end Sys2Proof
end

