-- ==== Sys2Proof/Config.lean ====
section
/-! DEFINITION. The fixed quantities of the ZT2408 (00_scope.md, Sizes).
The spec leaves no value to an implementation and no result undefined, so this file holds no free value. -/

namespace Sys2Proof.Config

/-- Words in one unit of the memory size setting (R12). -/
abbrev wordsPerUnit : Nat := 65536

/-- Bytes of the host address space, 2^24 (R25 check 1). -/
abbrev hostBytes : Nat := 16777216

/-- Items the memory queue can hold (R108). -/
abbrev queueCapacity : Nat := 13

/-- Records the fault log can hold (R176). -/
abbrev logCapacity : Nat := 4

/-- CLK periods in one unit of the idle close delay (R93). -/
abbrev idleUnit : Nat := 8

/-- Default idle close delay, in units of 8 CLK (R164). -/
abbrev idleDelayDefault : Nat := 4

/-- Default ready timeout, in CLK periods (R164). -/
abbrev readyTimeoutDefault : Nat := 1024

/-- Default memory size setting, in units of 65,536 words (R12, R164). -/
abbrev memorySizeDefault : Nat := 16

end Sys2Proof.Config
end

