-- ==== Sys2Proof/Syntax.lean ====
section
/-! DEFINITION. The commands of the ZT2408: one constructor of `Instr` for each row of spec/opcode_table.json.
Each row is one whole step of the part (95_what_each_step_holds.md): an event on a pin, the apply point of a link command, or
an event of the bridge's own. A row's operands are the levels the bridge samples in that event. A link command's operand is
the LDI bit of the rising edge that is its apply point (R154); its other bits stand in the staging record and the shifter.
READ_STATUS, READ_FAULT, FLUSH and RESTART have no parameter bytes, so that bit is the last bit of their own code. -/

namespace Sys2Proof

/-- The rows of spec/opcode_table.json, in the table's order. -/
inductive Instr where
  /-- HOST_REQUEST (R53): HREQ is high with HWR (true for a write), HA[23:2], HLANE and HWD at these levels. -/
  | hostRequest (write : Bool) (address : BitVec 22) (lanes : BitVec 4) (data : HostWord)
  /-- READ_ANSWER (R131). -/
  | readAnswer
  /-- HREQ_LOW (R48). -/
  | hreqLow
  /-- WAITING_PLACEMENT_TAKEN (R91). -/
  | waitingPlacementTaken
  /-- IDLE_EXPIRY (R94) of the merge entry with this number. -/
  | idleExpiry (entry : Nat)
  /-- BEGIN_ITEM (R114). -/
  | beginItem
  /-- STROBE_WRITE_COMPLETE (R116). -/
  | strobeWriteComplete
  /-- RMW_READ_COMPLETE (R117), with the word on MD. -/
  | rmwReadComplete (md : Word)
  /-- RMW_WRITE_COMPLETE (R117). -/
  | rmwWriteComplete
  /-- READ_COMPLETE (R118), with the word on MD. -/
  | readComplete (md : Word)
  /-- MRDY_RELEASE (R115). -/
  | mrdyRelease
  /-- READY_TIMEOUT (R120). -/
  | readyTimeout
  /-- SECOND_EXPIRY (R121). -/
  | secondExpiry
  /-- RECOVER_END (R121). -/
  | recoverEnd
  /-- UNSOLICITED_READY (R122). -/
  | unsolicitedReady
  /-- STUCK_DROP (R123). -/
  | stuckDrop
  /-- STUCK_END (R124). -/
  | stuckEnd
  /-- HOLD_REQUEST (R142): MHOLD rises. -/
  | holdRequest
  /-- HOLD_GRANT (R145). -/
  | holdGrant
  /-- HOLD_WITHDRAW (R147): MHOLD falls. -/
  | holdWithdraw
  /-- HOLD_RELEASE (R148): MHOLD falls, with MRDY at this level. -/
  | holdRelease (mrdy : Bool)
  /-- RSTN_ASSERT (R126). -/
  | rstnAssert
  /-- RSTN_RELEASE (R150), with MRDY at this level. -/
  | rstnRelease (mrdy : Bool)
  /-- FRAME_START (R151): LSEL falls. -/
  | frameStart
  /-- FRAME_END (R151): LSEL rises. -/
  | frameEnd
  /-- UNKNOWN_COMMAND (R153): the edge that completes an unlisted code, delivering this bit. -/
  | unknownCommand (ldi : Bool)
  /-- READ_STATUS (R160). -/
  | readStatus
  /-- READ_FAULT (R161). -/
  | readFault
  /-- READ_FAULT_COMPLETION (R177). -/
  | readFaultCompletion
  /-- READ_REGION (R29). -/
  | readRegion (ldi : Bool)
  /-- SET_WINDOW (R163). -/
  | setWindow (ldi : Bool)
  /-- SET_SURFACE (R1). -/
  | setSurface (ldi : Bool)
  /-- SET_MODE (R17). -/
  | setMode (ldi : Bool)
  /-- SET_BAND (R19). -/
  | setBand (ldi : Bool)
  /-- SET_SCROLL (R46). -/
  | setScroll (ldi : Bool)
  /-- SET_CURSOR_WINDOW (R74). -/
  | setCursorWindow (ldi : Bool)
  /-- SET_CURSOR (R75). -/
  | setCursor (ldi : Bool)
  /-- REVISIT_BEGIN (R76). -/
  | revisitBegin (ldi : Bool)
  /-- REVISIT_END (R77). -/
  | revisitEnd (ldi : Bool)
  /-- ENABLE (R24). -/
  | enable (ldi : Bool)
  /-- DISABLE (R27). -/
  | disable (ldi : Bool)
  /-- FLUSH (R168). -/
  | flush
  /-- FLUSH_DONE (R168). -/
  | flushDone
  /-- SET_TIMING (R166). -/
  | setTiming (ldi : Bool)
  /-- SET_MEMORY (R167). -/
  | setMemory (ldi : Bool)
  /-- RESTART (R169). -/
  | restart
  /-- RESTART_END (R170). -/
  | restartEnd
  /-- LCLK_RISING_EDGE (R152), with LDI at this level. -/
  | lclkRisingEdge (ldi : Bool)
  /-- LCLK_FALLING_EDGE (R152). -/
  | lclkFallingEdge
  /-- MHOLD_DURING_RESET (R150): MHOLD changes to this level while RSTN is asserted. -/
  | mholdDuringReset (level : Bool)
deriving DecidableEq, Repr

end Sys2Proof
end

