-- ==== Sys2Proof/WellFormed.lean ====
section
/-! DEFINITION. Which commands are well formed: an IDLE_EXPIRY names one of the eight merge entries e0..e7 (R82).
Every other operand has the width of the lines it stands for, so every value of it is one the lines can carry. -/

namespace Sys2Proof

/-- The command names only things the part has. -/
def Instr.wellFormed : Instr → Bool
  | .idleExpiry entry => decide (entry < 8)
  | .hostRequest _ _ _ _ | .readAnswer | .hreqLow | .waitingPlacementTaken
  | .beginItem | .strobeWriteComplete | .rmwReadComplete _ | .rmwWriteComplete | .readComplete _
  | .mrdyRelease | .readyTimeout | .secondExpiry | .recoverEnd | .unsolicitedReady | .stuckDrop | .stuckEnd
  | .holdRequest | .holdGrant | .holdWithdraw | .holdRelease _
  | .rstnAssert | .rstnRelease _ | .frameStart | .frameEnd | .unknownCommand _
  | .readStatus | .readFault | .readFaultCompletion | .readRegion _
  | .setWindow _ | .setSurface _ | .setMode _ | .setBand _ | .setScroll _ | .setCursorWindow _ | .setCursor _
  | .revisitBegin _ | .revisitEnd _ | .enable _ | .disable _ | .flush | .flushDone
  | .setTiming _ | .setMemory _ | .restart | .restartEnd
  | .lclkRisingEdge _ | .lclkFallingEdge | .mholdDuringReset _ => true

end Sys2Proof
end

