-- ==== Sys2Proof/Decode.lean ====
section
/-! DEFINITION. Reading a command from a word of the table's bits. spec/opcode_table.json gives no row any bits
("fields": [] throughout, no "fixed"), so no word spells a command (log entry 19). The link's own command bytes are state of the
configuration link, decoded there (R153), not words of the table. -/

namespace Sys2Proof

/-- The command that a word of `nbits` bits spells by the table's bits: none, since the table gives no row bits. -/
def decodeTableWord (_nbits _w : Nat) : Option Instr := none

end Sys2Proof
end

