-- ==== Sys2Proof/Machine/State.lean ====
section
/-! DEFINITION. The state of the ZT2408, block by block (00_scope.md, Block overview), as plain data, and the state after reset.
MHLDA, FLTN and the memory-select line are functions of it (Machine/Flags.lean). -/

namespace Sys2Proof.Machine

/-! ## Names and kinds -/

/-- Pixel formats (R2). -/
inductive Format where
  | p1 | p2 | p4 | p8 | p16
deriving DecidableEq, Repr

/-- Raster operations (R8). -/
inductive RasterOp where
  | replace | set | clear | toggle
deriving DecidableEq, Repr

/-- Region kinds (R17). -/
inductive Kind where
  | mapped | stream
deriving DecidableEq, Repr

/-- Region access rights (R17). -/
inductive Access where
  | rw | ro | wo
deriving DecidableEq, Repr

/-- Scan orders of a stream region (R68). -/
inductive ScanOrder where
  | rowFirst | columnFirst
deriving DecidableEq, Repr

/-- Hold policies (R141). -/
inductive HoldPolicy where
  | immediate | drainFirst
deriving DecidableEq, Repr

/-- The claimant of an access: a region or the pass-through aperture (R30). -/
inductive Origin where
  | region (number : Fin 8)
  | pass
deriving DecidableEq, Repr

/-- Direction of an access or of a fault (R50, R172). -/
inductive Direction where
  | read | write
deriving DecidableEq, Repr

/-- Why a word is read (R107). -/
inductive Purpose where
  | gather | prefetch
deriving DecidableEq, Repr

/-- A pixel position, column then row (00_scope.md, Terms). -/
structure Position where
  x : Nat
  y : Nat
deriving DecidableEq, Repr

/-! ## Region table (R15) -/

/-- One region record (R15). -/
structure Region where
  enabled : Bool
  windowBase : Nat
  windowLength : Nat
  base : Nat
  pitch : Nat
  width : Nat
  height : Nat
  format : Format
  kind : Kind
  access : Access
  op : RasterOp
  mirrorX : Bool
  mirrorY : Bool
  scan : ScanOrder
  readAhead : Bool
  bandTop : Nat
  bandRows : Nat
  scroll : Nat
  x0 : Nat
  x1 : Nat
  y0 : Nat
  y1 : Nat
  cursor : Position
  revisit : Bool
  mark : Option Position
deriving DecidableEq, Repr

/-- The values of R15's last column. -/
def Region.reset : Region where
  enabled := false
  windowBase := 0
  windowLength := 0
  base := 0
  pitch := 1
  width := 1
  height := 1
  format := .p16
  kind := .mapped
  access := .rw
  op := .replace
  mirrorX := false
  mirrorY := false
  scan := .rowFirst
  readAhead := false
  bandTop := 0
  bandRows := 0
  scroll := 0
  x0 := 0
  x1 := 0
  y0 := 0
  y1 := 0
  cursor := ⟨0, 0⟩
  revisit := false
  mark := none

/-! ## Host port controller (R49, R50, R57) -/

/-- States of the HPC (R49). -/
inductive HpcState where
  | idle | deferred | placing | gathering | answered
deriving DecidableEq, Repr

/-- A PIXEL entry of a pixel list (R57). `lane` is the lower lane of the pair for P16. A read's entry has no value. -/
structure Pixel where
  lane : Nat
  word : Nat
  slot : Nat
  format : Format
  op : RasterOp
  origin : Origin
  value : Option Word
deriving DecidableEq, Repr

/-- An entry of a pixel list (R57): a pixel, or a tail lane or pair of a mapped read. -/
inductive ListEntry where
  | pixel (p : Pixel)
  | tail (lane : Nat)
deriving DecidableEq, Repr

/-- The access record (R50). `claimant = none` is an unclaimed access; `snapshot = none` for PASS and unclaimed. -/
structure AccessRecord where
  direction : Direction
  address : Nat
  lanes : BitVec 4
  data : HostWord
  claimant : Option Origin
  snapshot : Option Region
  list : List ListEntry
  next : Nat
deriving DecidableEq, Repr

/-- The HPC: its state, the access record (absent when empty) and its three output lines (R48 to R50). -/
structure Hpc where
  state : HpcState
  access : Option AccessRecord
  hdone : Bool
  herr : Bool
  hrd : HostWord
deriving DecidableEq, Repr

/-! ## Merge buffer (R82) -/

/-- The idle timer of an OPEN entry (R82, R93). -/
inductive IdleTimer where
  | count (clk : Nat)
  | atAnswer
deriving DecidableEq, Repr

/-- The memory operation under way for an ACTIVE entry (R82). -/
inductive Phase where
  | strobeWrite | rmwRead | rmwWrite
deriving DecidableEq, Repr

/-- The state of an entry that is not FREE, with what it holds in that state alone (R82). -/
inductive EntryState where
  | opened (timer : IdleTimer)
  | closed
  | active (phase : Phase)
deriving DecidableEq, Repr

/-- A merge entry that is not FREE (R82). Bit k of `coverage` is set when slot k is in the coverage. -/
structure Entry where
  state : EntryState
  word : Nat
  format : Format
  op : RasterOp
  operand : Word
  coverage : BitVec 16
  order : Nat
  origin : Origin
deriving DecidableEq, Repr

/-! ## Memory queue (R107) -/

/-- An item of the memory queue (R107). -/
inductive Item where
  | entry (e : Fin 8)
  | gather (word : Nat) (index : Nat) (origin : Origin)
  | prefetch (word : Nat) (origin : Origin)
deriving DecidableEq, Repr

/-! ## Memory sequencer (R113) -/

/-- States of the MSQ (R113). -/
inductive MsqState where
  | idle | reading | writing | recover | stuck | held
deriving DecidableEq, Repr

/-- The step of a memory operation (R113). -/
inductive OpStep where
  | ready | release
deriving DecidableEq, Repr

/-- The kind of operation (R116 to R118). A read-modify-write holds its new word once it is formed (R117). -/
inductive OpKind where
  | strobeWrite
  | rmw (newWord : Option Word)
  | read
deriving DecidableEq, Repr

/-- The operation in flight (R113): the item it belongs to, the word it is made on, its kind and its step. -/
structure Operation where
  item : Item
  word : Nat
  kind : OpKind
  step : OpStep
deriving DecidableEq, Repr

/-- What the bridge drives on the memory port while MCS is high (R115). `md = none`: MD is left undriven. -/
structure PortCycle where
  ma : BitVec 20
  mwe : Bool
  mbs : BitVec 2
  md : Option Word
deriving DecidableEq, Repr

/-- The memory outputs (R115, R125): floated, driven with MCS low, or in a cycle with MCS high. -/
inductive MemPort where
  | floated
  | deselected
  | cycle (c : PortCycle)
deriving DecidableEq, Repr

/-- The MSQ (R113, R119, R121). `timer = none`: not armed. `last` is the word and direction of the last operation begun;
`stuckOf` is what a MEMORY_STUCK raised in the present RECOVER carries. -/
structure Msq where
  state : MsqState
  op : Option Operation
  timer : Option Nat
  last : Option (Nat × Direction)
  stuckOf : Option (Nat × Direction)
  port : MemPort
deriving DecidableEq, Repr

/-! ## Read gather (R127) and read-ahead latch (R133) -/

/-- State of a pixel slot that has a word (R127). -/
inductive SlotState where
  | wait | done | failed
deriving DecidableEq, Repr

/-- A pixel slot of the gather record (R127). -/
inductive PixelSlot where
  | tail (lane : Nat)
  | pixel (lane : Nat) (word : Nat) (slot : Nat) (index : Nat) (state : SlotState)
deriving DecidableEq, Repr

/-- State of a word slot (R127). -/
inductive WordState where
  | latchHit (data : Word)
  | queued
  | returned (data : Word)
  | failed
deriving DecidableEq, Repr

/-- A word slot of the gather record (R127). -/
structure WordSlot where
  word : Nat
  state : WordState
deriving DecidableEq, Repr

/-- The gather record in use (R127). -/
structure Gather where
  format : Format
  pixels : List PixelSlot
  words : List WordSlot
deriving DecidableEq, Repr

/-- The latched word (R133). -/
structure Latch where
  word : Nat
  data : Word
deriving DecidableEq, Repr

/-- The pending prefetch marker (R133). -/
structure Prefetch where
  word : Nat
  dropped : Bool
deriving DecidableEq, Repr

/-- The RAL (R133): the latch (absent when not valid) and the prefetch marker. -/
structure Ral where
  latch : Option Latch
  prefetch : Option Prefetch
deriving DecidableEq, Repr

/-! ## Hold controller (R141) -/

/-- The hold state with the request policy it holds while PENDING or GRANTED (R141). -/
inductive HoldState where
  | none
  | pending (policy : HoldPolicy)
  | granted (policy : HoldPolicy)
deriving DecidableEq, Repr

/-- The HLD (R141). `drainMark = none`: the mark counts nothing. -/
structure Hld where
  state : HoldState
  drainMark : Option Nat
deriving DecidableEq, Repr

/-! ## Fault log (R172, R176) -/

/-- Fault kinds (R172). -/
inductive FaultKind where
  | unclaimed | accessDenied | pixelSplit | writeTimeout | rmwReadTimeout | readTimeout | memoryStuck | droppedStuck
deriving DecidableEq, Repr

/-- A fault record (R172). `origin = none` is the value "none". -/
structure FaultRecord where
  kind : FaultKind
  origin : Option Origin
  direction : Direction
  hostAddress : Option Nat
  wordAddress : Option Nat
  purpose : Option Purpose
deriving DecidableEq, Repr

/-- The FLOG (R176): the records, oldest first, and the overflow flag. -/
structure Flog where
  records : List FaultRecord
  overflow : Bool
deriving DecidableEq, Repr

/-! ## Configuration link and command unit (R151, R155, R164) -/

/-- The listed link commands (10_the_configuration_link.md, Commands). -/
inductive LinkCommand where
  | readStatus | readFault | readRegion
  | setWindow | setSurface | setMode | setBand
  | setScroll | setCursorWindow | setCursor | revisitBegin | revisitEnd
  | enable | disable
  | flush | setTiming | setMemory | restart
deriving DecidableEq, Repr

/-- Result codes (10_the_configuration_link.md, Result codes). -/
inductive ResultCode where
  | ok | unknownCommand | badRegion | badValue | badGeometry | regionEnabled
  | wrongKind | wrongState | inUse | busy | aborted
deriving DecidableEq, Repr

/-- Frame states of the CFL (R151). -/
inductive FrameState where
  | waitDeselect | idle | command | parameters | result | response | trailer
deriving DecidableEq, Repr

/-- Which report the response bytes of the frame carry. A fault report names the record it reports, if any (R161). -/
inductive Report where
  | plain
  | fault (reported : Option FaultRecord)
deriving DecidableEq, Repr

/-- The CFL (R151 to R153, R156): frame state, complete bytes since LSEL fell, the partial byte (its bits and how many),
the staging record (code and parameter bytes), the bits still to be shifted out, which report they are, and LDO. -/
structure Cfl where
  state : FrameState
  byteCount : Nat
  bitCount : Nat
  shifter : Byte
  code : Option LinkCommand
  params : List Byte
  out : List Bool
  report : Report
  ldo : Option Bool
deriving DecidableEq, Repr

/-- The settings record (R164). -/
structure Settings where
  memorySize : Nat
  passThrough : Bool
  holdPolicy : HoldPolicy
  idleDelay : Nat
  readyTimeout : Nat
deriving DecidableEq, Repr

/-- The values of R164's reset column. -/
def Settings.reset : Settings where
  memorySize := Config.memorySizeDefault
  passThrough := true
  holdPolicy := .immediate
  idleDelay := Config.idleDelayDefault
  readyTimeout := Config.readyTimeoutDefault

/-- The CMU (R155, R164, R168, R169). `flushMark = none`: the mark counts nothing. -/
structure Cmu where
  settings : Settings
  lastResult : ResultCode
  flushDone : Bool
  flushMark : Option Nat
  restarting : Bool
deriving DecidableEq, Repr

/-! ## The whole machine -/

/-- The request lines of the host port (R48). -/
structure HostLines where
  hwr : Bool
  ha : BitVec 22
  hlane : BitVec 4
  hwd : HostWord
deriving DecidableEq, Repr

/-- The levels of the input pins. `rstn = true` is RSTN released; `lsel = false` is the bridge selected. -/
structure Inputs where
  rstn : Bool
  hreq : Bool
  lines : HostLines
  mrdy : Bool
  md : Word
  mhold : Bool
  lsel : Bool
  lclk : Bool
  ldi : Bool
deriving DecidableEq, Repr

/-- The state of the ZT2408. `mb` holds e0..e7, `none` being FREE. `rg = none`: the gather record is not in use.
`pending` is the model's own: the commands that wait, first in first out (log entry 1). -/
structure State where
  inp : Inputs
  hpc : Hpc
  rt : Vector Region 8
  mb : Vector (Option Entry) 8
  mq : List Item
  msq : Msq
  rg : Option Gather
  ral : Ral
  hld : Hld
  cfl : Cfl
  cmu : Cmu
  flog : Flog
  pending : List Instr
deriving DecidableEq, Repr

/-- Why a step could stop with a fault: nothing in the spec stops the part, so there is no such reason.
The part's own faults are records of its fault log (R172), which are data of `State`. Raised by nobody; safe. -/
inductive Fault where
deriving DecidableEq, Repr

/-- Why a command could be refused. -/
inductive Refusal where
  /-- Raised by an arm of `exec` whose row has no meaning yet; safe. No arm raises it: every row has its meaning. -/
  | notModelled (mnemonic : String)
deriving DecidableEq, Repr

/-! ## Reset values, block by block -/

/-- R65. -/
def Hpc.reset : Hpc := ⟨.idle, none, false, false, 0⟩

/-- R126, with MHOLD low. -/
def Msq.reset : Msq := ⟨.idle, none, none, none, none, .deselected⟩

/-- R133. -/
def Ral.reset : Ral := ⟨none, none⟩

/-- R150, with MHOLD low. -/
def Hld.reset : Hld := ⟨.none, none⟩

/-- R159. -/
def Cfl.reset : Cfl := ⟨.waitDeselect, 0, 0, 0, none, [], [], .plain, none⟩

/-- R155, R164, R168, R169. -/
def Cmu.reset : Cmu := ⟨.reset, .ok, true, none, false⟩

/-- R179. -/
def Flog.reset : Flog := ⟨[], false⟩

/-- Input levels of `State.reset`, which the spec does not give: every line low but RSTN, which is released. DESIGN CHOICE (log entry 7). -/
def Inputs.reset : Inputs := ⟨true, false, ⟨false, 0, 0, 0⟩, false, 0, false, false, false, false⟩

/-- The part right after the release of RSTN with MHOLD low and LSEL low: every block at its reset values, no command waiting. -/
def State.reset : State where
  inp := .reset
  hpc := .reset
  rt := Vector.replicate 8 .reset
  mb := Vector.replicate 8 none
  mq := []
  msq := .reset
  rg := none
  ral := .reset
  hld := .reset
  cfl := .reset
  cmu := .reset
  flog := .reset
  pending := []

end Sys2Proof.Machine
end

