-- ==== Sys2Proof/Machine/Operands.lean ====
section
/-! DEFINITION. The operand forms of the ZT2408, as functions of plain values: pixel formats, slots, byte coverage and raster
operations (chapter 1), address translation and window decoding (chapters 2 and 3), the pixel positions and lanes of an access
(chapters 4 and 5), and the parameter bytes of link commands (chapter 10). -/

namespace Sys2Proof.Machine

/-! ## Formats, slots and raster operations -/

/-- Bits per pixel, b (R2). -/
def Format.bits : Format → Nat
  | .p1 => 1
  | .p2 => 2
  | .p4 => 4
  | .p8 => 8
  | .p16 => 16

/-- Pixels per word, ppw (R2). -/
def Format.ppw : Format → Nat
  | .p1 => 16
  | .p2 => 8
  | .p4 => 4
  | .p8 => 2
  | .p16 => 1

/-- Host bytes per pixel, hb (R2). -/
def Format.hostBytes : Format → Nat
  | .p16 => 2
  | _ => 1

/-- The b low bits set: the largest pixel value of the format (R2). -/
def Format.maxValue (f : Format) : Word := BitVec.ofNat 16 (2 ^ f.bits - 1)

/-- The value of slot k in a word (R4). -/
def slotValue (f : Format) (w : Word) (k : Nat) : Word := (w >>> (k * f.bits)) &&& f.maxValue

/-- The bits of a word that slot k occupies (R4). -/
def slotMask (f : Format) (k : Nat) : Word := f.maxValue <<< (k * f.bits)

/-- The word with slot k holding the low b bits of v (R4). -/
def withSlot (f : Format) (w : Word) (k : Nat) (v : Word) : Word :=
  (w &&& ~~~ slotMask f k) ||| ((v &&& f.maxValue) <<< (k * f.bits))

/-- The new value of a slot from its old value and the operand (R8). -/
def RasterOp.apply : RasterOp → Word → Word → Word
  | .replace, _, v => v
  | .set, o, v => o ||| v
  | .clear, o, v => o &&& ~~~ v
  | .toggle, o, v => o ^^^ v

/-- The single operand that stands for two writes to one slot (R10). -/
def RasterOp.combine : RasterOp → Word → Word → Word
  | .replace, _, v2 => v2
  | .set, v1, v2 => v1 ||| v2
  | .clear, v1, v2 => v1 ||| v2
  | .toggle, v1, v2 => v1 ^^^ v2

/-- A raster operation applied to a word by slots: a covered slot takes R8's value, every other bit stays (R9). -/
def applyToWord (f : Format) (op : RasterOp) (coverage : BitVec 16) (operand old : Word) : Word :=
  (List.range f.ppw).foldl
    (fun w k => if coverage.getLsbD k then withSlot f w k (op.apply (slotValue f old k) (slotValue f operand k)) else w) old

/-- Slots of the format, as a coverage holding every slot (R87). -/
def Format.fullCoverage (f : Format) : BitVec 16 := BitVec.ofNat 16 (2 ^ f.ppw - 1)

/-- A coverage with slot k added (R86). -/
def withCovered (coverage : BitVec 16) (k : Nat) : BitVec 16 := coverage ||| (1#16 <<< k)

/-- The bytes of a word (R4). -/
inductive ByteOfWord where
  | low | high
deriving DecidableEq, Repr

/-- The slots that lie in a byte of the word (R4's table). -/
def Format.slotsIn : Format → ByteOfWord → List Nat
  | .p1, .low => [0, 1, 2, 3, 4, 5, 6, 7]
  | .p1, .high => [8, 9, 10, 11, 12, 13, 14, 15]
  | .p2, .low => [0, 1, 2, 3]
  | .p2, .high => [4, 5, 6, 7]
  | .p4, .low => [0, 1]
  | .p4, .high => [2, 3]
  | .p8, .low => [0]
  | .p8, .high => [1]
  | .p16, _ => [0]

/-- Classes of a byte's coverage (R5). -/
inductive ByteClass where
  | whole | partly | uncovered
deriving DecidableEq, Repr

/-- The class of a byte (R5). -/
def byteClass (f : Format) (coverage : BitVec 16) (b : ByteOfWord) : ByteClass :=
  if (f.slotsIn b).all (fun k => coverage.getLsbD k) then .whole
  else if (f.slotsIn b).any (fun k => coverage.getLsbD k) then .partly
  else .uncovered

/-- Neither byte is PARTIAL (R5). -/
def byteAligned (f : Format) (coverage : BitVec 16) : Bool :=
  decide (byteClass f coverage .low ≠ .partly) && decide (byteClass f coverage .high ≠ .partly)

/-- MBS for the strobe set: bit 0 strobes the low byte, bit 1 the high byte (R4, R5). -/
def strobeSet (f : Format) (coverage : BitVec 16) : BitVec 2 :=
  (if byteClass f coverage .low = .whole then 1#2 else 0#2) ||| (if byteClass f coverage .high = .whole then 2#2 else 0#2)

/-- The phase an entry takes when it becomes ACTIVE (R101). -/
def phaseAtActive (f : Format) (op : RasterOp) (coverage : BitVec 16) : Phase :=
  if op = .replace ∧ byteAligned f coverage = true then .strobeWrite else .rmwRead

/-! ## Lanes and host data -/

/-- The four lanes, ascending. -/
def allLanes : List Nat := [0, 1, 2, 3]

/-- Lane j is enabled. -/
def laneOn (lanes : BitVec 4) (j : Nat) : Bool := lanes.getLsbD j

/-- A lane pair has exactly one lane enabled (R56). -/
def splitsPair (lanes : BitVec 4) : Bool :=
  (laneOn lanes 0 != laneOn lanes 1) || (laneOn lanes 2 != laneOn lanes 3)

/-- The enabled lanes, or for P16 the lower lanes of the enabled pairs, ascending (R57, R66). -/
def enabledUnits (f : Format) (lanes : BitVec 4) : List Nat :=
  match f with
  | .p16 => [0, 2].filter fun j => laneOn lanes j && laneOn lanes (j + 1)
  | _ => allLanes.filter fun j => laneOn lanes j

/-- The pixel value that the write data carries at a lane, or at a lane pair for P16 (R6). -/
def hostValue (f : Format) (data : HostWord) (lane : Nat) : Word := (data >>> (8 * lane)).setWidth 16 &&& f.maxValue

/-- A pixel value in its lane or lane pair of the read data, zero-extended (R7). -/
def laneData (lane : Nat) (value : Word) : HostWord := value.setWidth 32 <<< (8 * lane)

/-! ## Surface geometry, translation and cursor -/

/-- The word and slot of a pixel. -/
structure Located where
  word : Nat
  slot : Nat
deriving DecidableEq, Repr

/-- The word and slot of a physical position (R3, R43). -/
def Region.locate (r : Region) (px py : Nat) : Located :=
  ⟨r.base + py * r.pitch + px / r.format.ppw, px % r.format.ppw⟩

/-- The scroll band's row (R41). -/
def Region.bandRow (r : Region) (ly : Nat) : Nat :=
  if 2 ≤ r.bandRows ∧ r.bandTop ≤ ly ∧ ly < r.bandTop + r.bandRows then
    r.bandTop + (ly - r.bandTop + r.scroll) % r.bandRows
  else ly

/-- The physical position of a logical one: the band, then the mirrors (R41, R42). -/
def Region.physical (r : Region) (p : Position) : Position :=
  ⟨if r.mirrorX then r.width - 1 - p.x else p.x,
   if r.mirrorY then r.height - 1 - r.bandRow p.y else r.bandRow p.y⟩

/-- The Pixel Translator: a logical position to its word and slot (R35, R41 to R43). -/
def Region.translate (r : Region) (p : Position) : Located :=
  r.locate (r.physical p).x (r.physical p).y

/-- The logical position of a pixel index (R40). -/
def Region.logical (r : Region) (i : Nat) : Position := ⟨i % r.width, i / r.width⟩

/-- The window's end, one past its last byte (R15, R30). -/
def Region.windowEnd (r : Region) : Nat := r.windowBase + 4 * r.windowLength

/-- The successor of a position in the cursor window and scan order (R68). -/
def Region.successor (r : Region) (p : Position) : Position :=
  match r.scan with
  | .rowFirst =>
    if p.x < r.x1 then ⟨p.x + 1, p.y⟩
    else if p.y < r.y1 then ⟨r.x0, p.y + 1⟩
    else ⟨r.x0, r.y0⟩
  | .columnFirst =>
    if p.y < r.y1 then ⟨p.x, p.y + 1⟩
    else if p.x < r.x1 then ⟨p.x + 1, r.y0⟩
    else ⟨r.x0, r.y0⟩

/-- The n positions reserved from a position (R69). -/
def Region.reserveFrom (r : Region) : Nat → Position → List Position
  | 0, _ => []
  | n + 1, p => p :: r.reserveFrom n (r.successor p)

/-- The position n steps on (R68, R70). -/
def Region.advance (r : Region) : Nat → Position → Position
  | 0, p => p
  | n + 1, p => r.advance n (r.successor p)

/-- A position lies in the cursor window (R21). -/
def Region.inCursorWindow (r : Region) (p : Position) : Bool :=
  decide (r.x0 ≤ p.x) && decide (p.x ≤ r.x1) && decide (r.y0 ≤ p.y) && decide (p.y ≤ r.y1)

/-! ## ENABLE checks (R25) -/

/-- Memory words for a memory size setting (R12). -/
def memoryWords (memorySize : Nat) : Nat := Config.wordsPerUnit * memorySize

/-- Check 1: the window is not empty and ends inside the host address space. -/
def Region.windowFits (r : Region) : Bool := decide (1 ≤ r.windowLength) && decide (r.windowEnd ≤ Config.hostBytes)

/-- Check 2 (R14). -/
def Region.rowFits (r : Region) : Bool := decide (r.width ≤ r.pitch * r.format.ppw)

/-- Check 3 (R14). -/
def Region.surfaceFits (r : Region) (words : Nat) : Bool := decide (r.base + r.height * r.pitch ≤ words)

/-- Check 4: a MAPPED window has ceil(Wd × H × hb / 4) host words. -/
def Region.windowMatches (r : Region) : Bool :=
  decide (r.kind = .stream) || decide (r.windowLength = (r.width * r.height * r.format.hostBytes + 3) / 4)

/-- Check 5. -/
def Region.bandFits (r : Region) : Bool := decide (r.bandRows = 0) || decide (r.bandTop + r.bandRows ≤ r.height)

/-- Check 6, for a given offset (also R22's check of SET_SCROLL). -/
def Region.scrollFits (r : Region) (offset : Nat) : Bool :=
  if r.bandRows = 0 then decide (offset = 0) else decide (offset < r.bandRows)

/-- Check 7's first condition, for a given window (also R22's check of SET_CURSOR_WINDOW). -/
def Region.cursorWindowFits (r : Region) (x1 y1 : Nat) : Bool := decide (x1 < r.width) && decide (y1 < r.height)

/-- Check 7: a STREAM region's cursor window lies inside the surface, and its cursor inside the window. -/
def Region.cursorFits (r : Region) : Bool :=
  decide (r.kind = .mapped) || (r.cursorWindowFits r.x1 r.y1 && r.inCursorWindow r.cursor)

/-- All seven checks of R25; a failure of any gives BAD_GEOMETRY (R24). -/
def Region.enableChecks (r : Region) (words : Nat) : Bool :=
  r.windowFits && r.rowFits && r.surfaceFits words && r.windowMatches && r.bandFits && r.scrollFits r.scroll && r.cursorFits

/-! ## Pixel lists (R57 to R59) -/

/-- A pixel of a region access: word and slot by the PXT, format, op and origin from the snapshot (R43, R57). -/
def regionPixel (r : Region) (n : Fin 8) (write : Bool) (data : HostWord) (lane : Nat) (p : Position) : Pixel where
  lane := lane
  word := (r.translate p).word
  slot := (r.translate p).slot
  format := r.format
  op := r.op
  origin := .region n
  value := if write then some (hostValue r.format data lane) else none

/-- The list entry of one lane or pair of a mapped access: a pixel below index Wd × H, else a tail (R37 to R40). -/
def mappedEntry (r : Region) (n : Fin 8) (write : Bool) (address : Nat) (data : HostWord) (lane : Nat) : ListEntry :=
  let i := (address + lane - r.windowBase) / r.format.hostBytes
  if i < r.width * r.height then .pixel (regionPixel r n write data lane (r.logical i)) else .tail lane

/-- The entry is a PIXEL entry. -/
def ListEntry.isPixel : ListEntry → Bool
  | .pixel _ => true
  | .tail _ => false

/-- The pixel list of a mapped access; a write drops its tail lanes (R39, R57, R58). -/
def mappedList (r : Region) (n : Fin 8) (write : Bool) (address : Nat) (lanes : BitVec 4) (data : HostWord) : List ListEntry :=
  let l := (enabledUnits r.format lanes).map (mappedEntry r n write address data)
  if write then l.filter ListEntry.isPixel else l

/-- The pixel list of a stream access from its reserved positions (R45, R58). -/
def streamList (r : Region) (n : Fin 8) (write : Bool) (lanes : BitVec 4) (data : HostWord) (ps : List Position) : List ListEntry :=
  ((enabledUnits r.format lanes).zip ps).map fun u => .pixel (regionPixel r n write data u.1 u.2)

/-- The pixel of one lane of a pass-through access (R11, R59). -/
def passPixel (write : Bool) (address : Nat) (data : HostWord) (lane : Nat) : Pixel where
  lane := lane
  word := (address + lane) / 2
  slot := (address + lane) % 2
  format := .p8
  op := .replace
  origin := .pass
  value := if write then some (hostValue .p8 data lane) else none

/-- The pixel list of a pass-through access (R59). -/
def passList (write : Bool) (address : Nat) (lanes : BitVec 4) (data : HostWord) : List ListEntry :=
  (enabledUnits .p8 lanes).map fun j => .pixel (passPixel write address data j)

/-! ## Link bytes, codes and parameters (chapter 10, Layouts) -/

/-- A number sent most significant byte first (R163). -/
def numberOf (bytes : List Byte) : Nat := bytes.foldl (fun a b => a * 256 + b.toNat) 0

/-- The number in `n` bytes from position `i` of the parameter bytes (R163). -/
def paramNumber (params : List Byte) (i n : Nat) : Nat := numberOf ((params.drop i).take n)

/-- The bits of a byte, most significant first (R152). -/
def bitsOf (b : Byte) : List Bool := [b.getLsbD 7, b.getLsbD 6, b.getLsbD 5, b.getLsbD 4, b.getLsbD 3, b.getLsbD 2, b.getLsbD 1, b.getLsbD 0]

/-- The partial byte with one more bit shifted in at the least significant end (R152). -/
def shiftIn (b : Byte) (bit : Bool) : Byte := (b <<< 1) ||| (if bit then 1#8 else 0#8)

/-- The command of a code byte, if it is listed. -/
def LinkCommand.ofCode (b : Byte) : Option LinkCommand :=
  if b = 0x01#8 then some .readStatus
  else if b = 0x02#8 then some .readFault
  else if b = 0x03#8 then some .readRegion
  else if b = 0x10#8 then some .setWindow
  else if b = 0x11#8 then some .setSurface
  else if b = 0x12#8 then some .setMode
  else if b = 0x13#8 then some .setBand
  else if b = 0x20#8 then some .setScroll
  else if b = 0x21#8 then some .setCursorWindow
  else if b = 0x22#8 then some .setCursor
  else if b = 0x23#8 then some .revisitBegin
  else if b = 0x24#8 then some .revisitEnd
  else if b = 0x30#8 then some .enable
  else if b = 0x31#8 then some .disable
  else if b = 0x40#8 then some .flush
  else if b = 0x41#8 then some .setTiming
  else if b = 0x42#8 then some .setMemory
  else if b = 0x4F#8 then some .restart
  else none

/-- How many parameter bytes a command takes. -/
def LinkCommand.paramBytes : LinkCommand → Nat
  | .readStatus => 0
  | .readFault => 0
  | .readRegion => 1
  | .setWindow => 7
  | .setSurface => 11
  | .setMode => 3
  | .setBand => 5
  | .setScroll => 3
  | .setCursorWindow => 9
  | .setCursor => 5
  | .revisitBegin => 1
  | .revisitEnd => 1
  | .enable => 1
  | .disable => 1
  | .flush => 0
  | .setTiming => 3
  | .setMemory => 3
  | .restart => 0

/-- The command is one of the two that are taken while RESTART is in progress and leave the last result (R154, R155). -/
def LinkCommand.alwaysTaken : LinkCommand → Bool
  | .readStatus => true
  | .readFault => true
  | _ => false

/-- Result code values. -/
def ResultCode.code : ResultCode → Byte
  | .ok => 0x00#8
  | .unknownCommand => 0x01#8
  | .badRegion => 0x02#8
  | .badValue => 0x03#8
  | .badGeometry => 0x04#8
  | .regionEnabled => 0x05#8
  | .wrongKind => 0x06#8
  | .wrongState => 0x07#8
  | .inUse => 0x08#8
  | .busy => 0x09#8
  | .aborted => 0x0A#8

/-- The format of a format code, if it is one. -/
def Format.ofCode (n : Nat) : Option Format :=
  match n with
  | 0 => some .p1
  | 1 => some .p2
  | 2 => some .p4
  | 3 => some .p8
  | 4 => some .p16
  | _ => none

/-- Format code values. -/
def Format.code : Format → Nat
  | .p1 => 0
  | .p2 => 1
  | .p4 => 2
  | .p8 => 3
  | .p16 => 4

/-- Access from mode byte A, bits 2..1; 3 is refused. -/
def Access.ofCode (n : Nat) : Option Access :=
  match n with
  | 0 => some .rw
  | 1 => some .ro
  | 2 => some .wo
  | _ => none

/-- Access code values. -/
def Access.code : Access → Nat
  | .rw => 0
  | .ro => 1
  | .wo => 2

/-- Raster op from mode byte A, bits 4..3. -/
def RasterOp.ofCode (n : Nat) : RasterOp :=
  match n with
  | 0 => .replace
  | 1 => .set
  | 2 => .clear
  | _ => .toggle

/-- Raster op code values. -/
def RasterOp.code : RasterOp → Nat
  | .replace => 0
  | .set => 1
  | .clear => 2
  | .toggle => 3

/-- The mode fields carried by mode bytes A and B, if every bit pattern has a meaning (R163). -/
def modeOf (r : Region) (a b : Byte) : Option Region :=
  if a.toNat / 32 = 0 ∧ b.toNat / 16 = 0 then
    (Access.ofCode (a.toNat / 2 % 4)).map fun access =>
      { r with
        kind := if a.getLsbD 0 then .stream else .mapped
        access := access
        op := RasterOp.ofCode (a.toNat / 8 % 4)
        mirrorX := b.getLsbD 0
        mirrorY := b.getLsbD 1
        scan := if b.getLsbD 2 then .columnFirst else .rowFirst
        readAhead := b.getLsbD 3 }
  else none

/-- Mode byte A of a record. -/
def Region.modeA (r : Region) : Byte :=
  BitVec.ofNat 8 ((if r.kind = .stream then 1 else 0) + 2 * r.access.code + 8 * r.op.code)

/-- Mode byte B of a record. -/
def Region.modeB (r : Region) : Byte :=
  BitVec.ofNat 8 (r.mirrorX.toNat + 2 * r.mirrorY.toNat + (if r.scan = .columnFirst then 4 else 0) + 8 * r.readAhead.toNat)

/-- A number as `n` bytes, most significant first. -/
def bytesOf : Nat → Nat → List Byte
  | 0, _ => []
  | n + 1, v => BitVec.ofNat 8 (v / 256 ^ n) :: bytesOf n v

end Sys2Proof.Machine
end

