-- ==== Sys2Proof/Machine/Ops.lean ====
section
/-! DEFINITION. The named operations over the blocks' state that the rows share: storing a fault, closing and opening merge entries,
placing pixels, appending to and removing from the memory queue, the read-ahead latch, driving the memory port, and answering
the host. -/

namespace Sys2Proof.Machine

/-- The eight numbers of the regions and of the merge entries, ascending. -/
def allEight : List (Fin 8) := [0, 1, 2, 3, 4, 5, 6, 7]

/-! ## Fault log -/

/-- A detected fault is appended, or sets the overflow flag when the log is full (R176). -/
def Flog.store (f : Flog) (r : FaultRecord) : Flog :=
  if f.records.length < Config.logCapacity then { f with records := f.records ++ [r] } else { f with overflow := true }

/-- A fault record is handed to the FLOG (R176). -/
def recordFault (s : State) (r : FaultRecord) : State := { s with flog := s.flog.store r }

/-- The completion of a READ_FAULT: the reported record leaves the head, and the overflow flag clears with the removal that
empties the log; an empty report changes nothing (R177). -/
def Flog.complete (f : Flog) (reported : Option FaultRecord) : Flog :=
  match reported with
  | none => f
  | some _ => ⟨f.records.tail, if f.records.tail = [] then false else f.overflow⟩

/-- A host-port fault of the access in hand (R54 to R56, R172). -/
def hostFault (kind : FaultKind) (origin : Option Origin) (direction : Direction) (address : Nat) : FaultRecord :=
  ⟨kind, origin, direction, some address, none, none⟩

/-- A memory fault of a merge entry (R172): direction write, the entry's origin and word. -/
def entryFault (kind : FaultKind) (e : Entry) : FaultRecord := ⟨kind, some e.origin, .write, none, some e.word, none⟩

/-- A memory fault of a READ item (R172). -/
def readFaultRecord (kind : FaultKind) (word : Nat) (origin : Origin) (purpose : Purpose) : FaultRecord :=
  ⟨kind, some origin, .read, none, some word, some purpose⟩

/-! ## Merge entries -/

/-- An OPEN entry (R82). -/
def Entry.isOpen (e : Entry) : Bool :=
  match e.state with
  | .opened _ => true
  | .closed => false
  | .active _ => false

/-- An OPEN entry whose timer is AT_ANSWER (R94). -/
def Entry.isAtAnswer (e : Entry) : Bool :=
  match e.state with
  | .opened .atAnswer => true
  | .opened (.count _) => false
  | .closed => false
  | .active _ => false

/-- The OPEN entry that holds word W, if there is one (R84, R85). -/
def openEntryFor (s : State) (w : Nat) : Option (Fin 8) :=
  allEight.find? fun i =>
    match s.mb[i] with
    | some e => e.isOpen && decide (e.word = w)
    | none => false

/-- The lowest-numbered FREE entry (R89). -/
def lowestFree (s : State) : Option (Fin 8) := allEight.find? fun i => (s.mb[i]).isNone

/-- Every entry is FREE (R170). -/
def allFree (s : State) : Bool := allEight.all fun i => (s.mb[i]).isNone

/-- The opened order of an entry, 0 for a FREE one; orders start at 1. -/
def orderOf (s : State) (i : Fin 8) : Nat :=
  match s.mb[i] with
  | some e => e.order
  | none => 0

/-- An opened order later than every entry not FREE (R89). -/
def nextOrder (s : State) : Nat := 1 + allEight.foldl (fun m i => max m (orderOf s i)) 0

/-- Put an entry number into a list kept in opened order. -/
def insertByOrder (s : State) (i : Fin 8) : List (Fin 8) → List (Fin 8)
  | [] => [i]
  | j :: l => if orderOf s i < orderOf s j then i :: j :: l else j :: insertByOrder s i l

/-- Entry numbers in opened order, oldest first. -/
def inOpenedOrder (s : State) (l : List (Fin 8)) : List (Fin 8) := l.foldr (insertByOrder s) []

/-- The entries that satisfy a test, oldest first (R92). -/
def entriesWhere (s : State) (test : Entry → Bool) : List (Fin 8) :=
  inOpenedOrder s (allEight.filter fun i =>
    match s.mb[i] with
    | some e => test e
    | none => false)

/-- Append an item at the tail of the memory queue (R109). -/
def appendItem (s : State) (x : Item) : State := { s with mq := s.mq ++ [x] }

/-- An entry closes: it becomes CLOSED and its ENTRY item joins the tail; an entry that is not OPEN is left as it is (R92). -/
def closeEntry (s : State) (i : Fin 8) : State :=
  match s.mb[i] with
  | some e =>
    if e.isOpen then appendItem { s with mb := s.mb.set i (some { e with state := .closed }) } (.entry i) else s
  | none => s

/-- The entries of a list close, one after another (R92). -/
def closeEntries (s : State) (l : List (Fin 8)) : State := l.foldl closeEntry s

/-- Every OPEN entry closes, in opened order (R97, R98, R99). -/
def closeAllOpen (s : State) : State := closeEntries s (entriesWhere s Entry.isOpen)

/-- The OPEN entry that holds a word about to be read closes, if there is one (R96). -/
def closeForRead (s : State) (w : Nat) : State :=
  match openEntryFor s w with
  | some i => closeEntry s i
  | none => s

/-- The completion notification of a write: the AT_ANSWER entries close, and while RESTART is in progress every OPEN entry (R94, R99). -/
def completionNotification (s : State) : State :=
  if s.cmu.restarting then closeAllOpen s else closeEntries s (entriesWhere s Entry.isAtAnswer)

/-- The idle timer as started from the idle close delay held now (R93). -/
def startIdleTimer (s : State) : IdleTimer :=
  if s.cmu.settings.idleDelay = 0 then .atAnswer else .count (Config.idleUnit * s.cmu.settings.idleDelay)

/-- A placed word is reported to the RAL (R138). -/
def Ral.placed (r : Ral) (w : Nat) : Ral where
  latch :=
    match r.latch with
    | some l => if l.word = w then none else some l
    | none => none
  prefetch :=
    match r.prefetch with
    | some p => if p.word = w then some { p with dropped := true } else some p
    | none => none

/-- The entry in hand closes with the cause complete when it is REPLACE and holds every slot (R87). -/
def closeIfComplete (s : State) (i : Fin 8) : State :=
  match s.mb[i] with
  | some e => if e.op = .replace ∧ e.coverage = e.format.fullCoverage then closeEntry s i else s
  | none => s

/-- The value a write's pixel carries (R57). -/
def Pixel.operand (p : Pixel) : Word := p.value.getD 0

/-- A pixel merges into an OPEN entry of its word, format and op, and is reported (R86, R85, R87). -/
def mergePixel (s : State) (i : Fin 8) (e : Entry) (p : Pixel) : State :=
  closeIfComplete
    { s with
      mb := s.mb.set i (some { e with
        state := .opened (startIdleTimer s)
        operand := withSlot e.format e.operand p.slot (e.op.combine (slotValue e.format e.operand p.slot) p.operand)
        coverage := withCovered e.coverage p.slot })
      ral := s.ral.placed p.word } i

/-- The fields of an entry as a pixel opens it (R89). -/
def openedEntry (s : State) (p : Pixel) : Entry where
  state := .opened (startIdleTimer s)
  word := p.word
  format := p.format
  op := p.op
  operand := withSlot p.format 0 p.slot p.operand
  coverage := withCovered 0 p.slot
  order := nextOrder s
  origin := p.origin

/-- A pixel opens a FREE entry, and is reported (R89, R85, R87). -/
def openPixel (s : State) (i : Fin 8) (p : Pixel) : State :=
  closeIfComplete { s with mb := s.mb.set i (some (openedEntry s p)), ral := s.ral.placed p.word } i

/-- Exhaustion: the oldest OPEN entry closes with the cause forced, if any is OPEN (R90). -/
def forceClose (s : State) : State := closeEntries s ((entriesWhere s Entry.isOpen).take 1)

/-- What the MB does with a placement request. -/
inductive Placement where
  | accepted (s : State)
  | waits (s : State)
deriving Repr

/-- The step of R85 in which no OPEN entry holds the word: the pixel opens an entry, or waits under exhaustion (R89, R90). -/
def placeInFree (s : State) (p : Pixel) : Placement :=
  match lowestFree s with
  | some i => .accepted (openPixel s i p)
  | none => .waits (forceClose s)

/-- A placement request: merge, mismatch close and open, open, or wait (R85). -/
def placePixel (s : State) (p : Pixel) : Placement :=
  match openEntryFor s p.word with
  | some i =>
    match s.mb[i] with
    | some e => if e.format = p.format ∧ e.op = p.op then .accepted (mergePixel s i e p) else placeInFree (closeEntry s i) p
    | none => placeInFree s p
  | none => placeInFree s p

/-- The pixels of a list are handed on until one waits; also how many list entries were passed (R60). -/
def placeList (s : State) : List ListEntry → State × Nat
  | [] => (s, 0)
  | .tail _ :: l =>
    let r := placeList s l
    (r.1, r.2 + 1)
  | .pixel p :: l =>
    match placePixel s p with
    | .accepted s' =>
      let r := placeList s' l
      (r.1, r.2 + 1)
    | .waits s' => (s', 0)

/-- An entry becomes FREE (R104). -/
def freeEntry (s : State) (i : Fin 8) : State := { s with mb := s.mb.set i none }

/-! ## Memory queue -/

/-- A mark that counts more than 0 is lowered by one (R111). -/
def lowerMark (m : Option Nat) : Option Nat := m.map fun n => n - 1

/-- The head item is removed, and every mark counting more than 0 is lowered by one (R110, R111). -/
def removeHead (s : State) : State :=
  { s with
    mq := s.mq.tail
    cmu := { s.cmu with flushMark := lowerMark s.cmu.flushMark }
    hld := { s.hld with drainMark := lowerMark s.hld.drainMark } }

/-- The HLD's permission to begin or drop the head item (R114, R123). -/
def headPermitted (s : State) : Bool :=
  match s.hld.state with
  | .none => true
  | .pending .immediate => false
  | .pending .drainFirst => decide (0 < s.hld.drainMark.getD 0)
  | .granted _ => false

/-! ## Gather record and read-ahead latch -/

/-- A pixel slot in WAIT whose word slot is resolved takes the given state (R129, R130). -/
def PixelSlot.resolve (index : Nat) (st : SlotState) : PixelSlot → PixelSlot
  | .tail lane => .tail lane
  | .pixel lane word slot i old => .pixel lane word slot i (if i = index ∧ old = .wait then st else old)

/-- A word slot is resolved once, together with its pixel slots (R130). -/
def Gather.resolve (g : Gather) (index : Nat) (w : WordState) : Gather where
  format := g.format
  pixels := g.pixels.map (PixelSlot.resolve index (if w = .failed then .failed else .done))
  words := g.words.modify index fun x => { x with state := w }

/-- The gather word named by a READ item ends (R130). -/
def resolveGather (s : State) (index : Nat) (w : WordState) : State := { s with rg := s.rg.map fun g => g.resolve index w }

/-- A pending prefetch ends: with data and not dropped the latch fills, otherwise it is invalid; the marker clears (R137). -/
def Ral.prefetchEnds (r : Ral) (data : Option Word) : Ral :=
  match r.prefetch, data with
  | none, _ => r
  | some p, some d => if p.dropped then ⟨none, none⟩ else ⟨some ⟨p.word, d⟩, none⟩
  | some _, none => ⟨none, none⟩

/-- The latch is invalidated and a pending prefetch is marked as dropped (R139). -/
def Ral.invalidate (r : Ral) : Ral := ⟨none, r.prefetch.map fun p => { p with dropped := true }⟩

/-- A READ item of this kind fails in memory: its gather word, or its prefetch (R120, R123, R130, R137). -/
def failRead (s : State) : Item → State
  | .gather _ index _ => resolveGather s index .failed
  | .prefetch _ _ => { s with ral := s.ral.prefetchEnds none }
  | .entry _ => s

/-- The word of a READ item is handed to the RG or the RAL (R118, R130, R137). -/
def deliverRead (s : State) (data : Word) : Item → State
  | .gather _ index _ => resolveGather s index (.returned data)
  | .prefetch _ _ => { s with ral := s.ral.prefetchEnds (some data) }
  | .entry _ => s

/-! ## Memory port and sequencer -/

/-- Begin an operation: MCS rises with the given lines, the ready timer is armed, and the operation's word and direction are
kept (R113, R115, R119). -/
def beginOp (s : State) (st : MsqState) (op : Operation) (dir : Direction) (mwe : Bool) (mbs : BitVec 2) (md : Option Word) : State :=
  { s with
    msq := { s.msq with
      state := st
      op := some op
      timer := some s.cmu.settings.readyTimeout
      last := some (op.word, dir)
      port := .cycle ⟨BitVec.ofNat 20 op.word, mwe, mbs, md⟩ } }

/-- An operation completes: MRDY has been seen high, MCS drops and the timer is armed for the release step (R115, R119). -/
def completeOp (s : State) (op : Operation) : State :=
  { s with
    inp := { s.inp with mrdy := true }
    msq := { s.msq with
      op := some { op with step := .release }
      timer := some s.cmu.settings.readyTimeout
      port := .deselected } }

/-- The MSQ enters IDLE, with no operation and no timer armed. -/
def msqIdle (s : State) : State :=
  { s with msq := { s.msq with state := .idle, op := none, timer := none, stuckOf := none, port := .deselected } }

/-- The MSQ enters STUCK: MCS low, no operation, no timer armed (R119, R123). -/
def msqStuck (s : State) : State :=
  { s with msq := { s.msq with state := .stuck, op := none, timer := none, stuckOf := none, port := .deselected } }

/-- The MSQ enters RECOVER with the timer armed; `of` is what a MEMORY_STUCK would carry (R119 to R122). -/
def msqRecover (s : State) (of : Option (Nat × Direction)) : State :=
  { s with
    msq := { s.msq with
      state := .recover
      op := none
      timer := some s.cmu.settings.readyTimeout
      stuckOf := of
      port := .deselected } }

/-- The level of MRDY is recorded. -/
def seeMrdy (s : State) (level : Bool) : State := { s with inp := { s.inp with mrdy := level } }

/-! ## Host port -/

/-- The CLK period of an answer is over: HDONE and HERR low, HRD 0 (R48). -/
def endAnswer (s : State) : State := { s with hpc := { s.hpc with hdone := false, herr := false, hrd := 0 } }

/-- The answer: HDONE high for one CLK period with the response; the HPC enters ANSWERED, or IDLE at once when HREQ has
already been dropped (R48, R49). -/
def answer (s : State) (error : Bool) (data : HostWord) : State :=
  { s with
    hpc :=
      { state := if s.inp.hreq then .answered else .idle
        access := if s.inp.hreq then s.hpc.access else none
        hdone := true
        herr := error
        hrd := data } }

end Sys2Proof.Machine
end

