-- ==== Sys2Proof/Machine/Flags.lean ====
section
/-! DEFINITION. What is seen of the state from outside: the lines MHLDA, FLTN and MCS, and the response bytes of READ_STATUS,
READ_REGION and READ_FAULT (chapter 10, Layouts). -/

namespace Sys2Proof.Machine

/-! ## Lines -/

/-- MHLDA: the level of MHOLD while RSTN is asserted, and otherwise high exactly in GRANTED (R141, R150). -/
def State.mhlda (s : State) : Bool :=
  if s.inp.rstn then
    match s.hld.state with
    | .granted _ => true
    | .none => false
    | .pending _ => false
  else s.inp.mhold

/-- FLTN: low (false) while the log holds a record or the overflow flag is set (R178). -/
def State.fltn (s : State) : Bool := decide (s.flog.records = []) && !s.flog.overflow

/-- MCS: high exactly in a memory cycle (R115). -/
def State.mcs (s : State) : Bool :=
  match s.msq.port with
  | .cycle _ => true
  | .deselected => false
  | .floated => false

/-! ## Counts and codes -/

/-- How many entries satisfy a test. -/
def countEntries (s : State) (test : Option Entry → Bool) : Nat := (allEight.filter fun i => test s.mb[i]).length

/-- FREE entries (R82). -/
def countFree (s : State) : Nat := countEntries s Option.isNone

/-- OPEN entries (R82). -/
def countOpen (s : State) : Nat :=
  countEntries s fun x =>
    match x with
    | some e => e.isOpen
    | none => false

/-- CLOSED entries (R82). -/
def countClosed (s : State) : Nat :=
  countEntries s fun x =>
    match x with
    | some e => decide (e.state = .closed)
    | none => false

/-- ACTIVE entries (R82). -/
def countActive (s : State) : Nat :=
  countEntries s fun x =>
    match x with
    | some e => !e.isOpen && decide (e.state ≠ .closed)
    | none => false

/-- MSQ state values of the status response. -/
def MsqState.code : MsqState → Nat
  | .idle => 0
  | .reading => 1
  | .writing => 2
  | .recover => 3
  | .stuck => 4
  | .held => 5

/-- HLD state values of the status response. -/
def HoldState.code : HoldState → Nat
  | .none => 0
  | .pending _ => 1
  | .granted _ => 2

/-- Fault kind values of the fault response; 0 is NONE. -/
def FaultKind.code : FaultKind → Nat
  | .unclaimed => 1
  | .accessDenied => 2
  | .pixelSplit => 3
  | .writeTimeout => 4
  | .rmwReadTimeout => 5
  | .readTimeout => 6
  | .memoryStuck => 7
  | .droppedStuck => 8

/-- Origin values of the fault response. -/
def originCode : Option Origin → Nat
  | some (.region n) => n.val
  | some .pass => 8
  | none => 0xFF

/-! ## Responses -/

/-- The eight bytes of READ_STATUS (R160). -/
def statusBytes (s : State) : List Byte :=
  [ BitVec.ofNat 8 (s.msq.state.code + 8 * s.hld.state.code + 32 * s.cmu.flushDone.toNat + 64 * s.cmu.restarting.toNat
      + 128 * s.flog.overflow.toNat),
    BitVec.ofNat 8 (countFree s + 16 * countOpen s),
    BitVec.ofNat 8 (countClosed s + 16 * countActive s + 32 * s.ral.latch.isSome.toNat + 64 * s.ral.prefetch.isSome.toNat),
    BitVec.ofNat 8 (s.mq.length + 16 * s.flog.records.length),
    s.cmu.lastResult.code,
    BitVec.ofNat 8 (s.cmu.settings.memorySize + 32 * s.cmu.settings.passThrough.toNat
      + (if s.cmu.settings.holdPolicy = .drainFirst then 64 else 0)),
    BitVec.ofNat 8 s.cmu.settings.idleDelay,
    BitVec.ofNat 8 (s.cmu.settings.readyTimeout / 16) ]

/-- The 42 bytes of READ_REGION (R29, R162). -/
def regionBytes (n : Nat) (r : Region) : List Byte :=
  [BitVec.ofNat 8 n, BitVec.ofNat 8 (r.enabled.toNat + 2 * r.revisit.toNat)]
    ++ bytesOf 3 r.windowBase ++ bytesOf 3 r.windowLength ++ bytesOf 3 r.base
    ++ bytesOf 2 r.pitch ++ bytesOf 2 r.width ++ bytesOf 2 r.height
    ++ [BitVec.ofNat 8 r.format.code, r.modeA, r.modeB]
    ++ bytesOf 2 r.bandTop ++ bytesOf 2 r.bandRows ++ bytesOf 2 r.scroll
    ++ bytesOf 2 r.x0 ++ bytesOf 2 r.x1 ++ bytesOf 2 r.y0 ++ bytesOf 2 r.y1
    ++ bytesOf 2 r.cursor.x ++ bytesOf 2 r.cursor.y
    ++ bytesOf 2 ((r.mark.map Position.x).getD 0) ++ bytesOf 2 ((r.mark.map Position.y).getD 0)

/-- The ten bytes of READ_FAULT: the oldest record, or kind NONE with every field 0 (R161, R172). -/
def faultBytes (f : Flog) : List Byte :=
  match f.records with
  | [] => List.replicate 10 0#8
  | r :: _ =>
    [ BitVec.ofNat 8 r.kind.code,
      BitVec.ofNat 8 (originCode r.origin),
      BitVec.ofNat 8 ((if r.direction = .write then 1 else 0) + 2 * r.hostAddress.isSome.toNat + 4 * r.wordAddress.isSome.toNat
        + (if r.purpose = some .prefetch then 8 else 0) + 16 * f.overflow.toNat) ]
      ++ bytesOf 3 (r.hostAddress.getD 0) ++ bytesOf 3 (r.wordAddress.getD 0)
      ++ [BitVec.ofNat 8 f.records.length]

end Sys2Proof.Machine
end

