-- ==== Sys2Proof/Machine/Claim.lean ====
section
/-! DEFINITION. The shared operations of a host access: naming the claimant (WD), the claim with its checks and pixel list (HPC, CU),
the placing of a write, the gather of a read (RG), the answer of each, and the prefetch after a stream read (RAL). -/

namespace Sys2Proof.Machine

/-! ## Window decoding -/

/-- Region n is ENABLED and its window covers A (R30). -/
def covers (s : State) (address : Nat) (n : Fin 8) : Bool :=
  (s.rt[n]).enabled && decide ((s.rt[n]).windowBase ≤ address) && decide (address < (s.rt[n]).windowEnd)

/-- The pass-through aperture admits A (R30, R32). -/
def inAperture (s : State) (address : Nat) : Bool :=
  s.cmu.settings.passThrough && decide (address + 3 < 2 * memoryWords s.cmu.settings.memorySize)

/-- The claimant of A: the lowest-numbered ENABLED region covering it, else PASS, else nobody (R30). -/
def claimantOf (s : State) (address : Nat) : Option Origin :=
  match allEight.find? (covers s address) with
  | some n => some (.region n)
  | none => if inAperture s address then some .pass else none

/-! ## The read-ahead latch after a stream read -/

/-- A prefetch of W′ is issued: the latch is invalidated, the entry for W′ closes, READ(W′, PREFETCH) is appended, and the marker is
set pending (R136). -/
def issuePrefetch (s : State) (n : Fin 8) (w : Nat) : State :=
  let s1 := closeForRead { s with ral := { s.ral with latch := none } } w
  let s2 := appendItem s1 (.prefetch w (.region n))
  { s2 with ral := { s2.ral with prefetch := some ⟨w, false⟩ } }

/-- The latch is valid for W′, or a prefetch is pending (R136). -/
def prefetchNotNeeded (s : State) (w : Nat) : Bool :=
  s.ral.prefetch.isSome ||
    match s.ral.latch with
    | some l => decide (l.word = w)
    | none => false

/-- The notification that a stream read of region n has been answered, with its snapshot (R135, R136, R36). -/
def streamReadNotification (s : State) (n : Fin 8) (snapshot : Region) : State :=
  let live := s.rt[n]
  if snapshot.readAhead ∧ ¬ snapshot.revisit ∧ ¬ s.cmu.restarting ∧ live.enabled ∧ live.kind = .stream then
    let w := (live.translate live.cursor).word
    if prefetchNotNeeded s w then s else issuePrefetch s n w
  else s

/-! ## Reads -/

/-- The distinct words of a pixel list, in order of first appearance (R128). -/
def distinctWords (l : List ListEntry) : List Nat :=
  l.foldl (fun ws x =>
    match x with
    | .pixel p => if ws.contains p.word then ws else ws ++ [p.word]
    | .tail _ => ws) []

/-- Each word slot is resolved at the claim: a latch hit, or a read close and a READ item behind it (R129). -/
def resolveWords (s : State) (origin : Origin) : Nat → List Nat → State × List WordSlot
  | _, [] => (s, [])
  | index, w :: ws =>
    match s.ral.latch with
    | some l =>
      if l.word = w then
        let r := resolveWords s origin (index + 1) ws
        (r.1, ⟨w, .latchHit l.data⟩ :: r.2)
      else
        let r := resolveWords (appendItem (closeForRead s w) (.gather w index origin)) origin (index + 1) ws
        (r.1, ⟨w, .queued⟩ :: r.2)
    | none =>
      let r := resolveWords (appendItem (closeForRead s w) (.gather w index origin)) origin (index + 1) ws
      (r.1, ⟨w, .queued⟩ :: r.2)

/-- The word slot is QUEUED (R127). -/
def WordSlot.isQueued (x : WordSlot) : Bool :=
  match x.state with
  | .queued => true
  | .latchHit _ => false
  | .returned _ => false
  | .failed => false

/-- The pixel slot of a list entry, once the words are resolved (R128, R129). -/
def pixelSlotOf (words : List WordSlot) : ListEntry → PixelSlot
  | .tail lane => .tail lane
  | .pixel p =>
    let index := words.findIdx fun x => decide (x.word = p.word)
    .pixel p.lane p.word p.slot index (if (words[index]?).all WordSlot.isQueued then .wait else .done)

/-- The RG fills its record from the pixel list (R128, R129). -/
def planRead (s : State) (origin : Origin) (f : Format) (l : List ListEntry) : State :=
  let r := resolveWords s origin 0 (distinctWords l)
  { r.1 with rg := some ⟨f, l.map (pixelSlotOf r.2), r.2⟩ }

/-- The data a word slot holds (R127). -/
def WordSlot.data? (x : WordSlot) : Option Word :=
  match x.state with
  | .latchHit d => some d
  | .returned d => some d
  | .queued => none
  | .failed => none

/-- What a pixel slot contributes to the read data (R131, R7). -/
def Gather.slotData (g : Gather) : PixelSlot → HostWord
  | .tail _ => 0
  | .pixel lane _ slot index .done =>
    match (g.words[index]?).bind WordSlot.data? with
    | some d => laneData lane (slotValue g.format d slot)
    | none => 0
  | .pixel _ _ _ _ .wait => 0
  | .pixel _ _ _ _ .failed => 0

/-- The assembled read data (R131). -/
def Gather.assembled (g : Gather) : HostWord := g.pixels.foldl (fun a x => a ||| g.slotData x) 0

/-- A pixel slot is FAILED (R127). -/
def PixelSlot.isFailed : PixelSlot → Bool
  | .pixel _ _ _ _ .failed => true
  | .pixel _ _ _ _ .wait => false
  | .pixel _ _ _ _ .done => false
  | .tail _ => false

/-- Some pixel slot is FAILED: the read's answer is an error (R131). -/
def Gather.anyFailed (g : Gather) : Bool := g.pixels.any PixelSlot.isFailed

/-- No word slot is QUEUED any more (R131). -/
def Gather.complete (g : Gather) : Bool := g.words.all fun x => ! x.isQueued

/-- The read is answered, the record goes out of use, and after a stream read the RAL is notified (R131, R63, R135). -/
def finishRead (s : State) (g : Gather) : State :=
  let s1 := answer { s with rg := none } g.anyFailed (if g.anyFailed then 0 else g.assembled)
  match s.hpc.access with
  | some a =>
    match a.claimant, a.snapshot with
    | some (.region n), some r => if r.kind = .stream then streamReadNotification s1 n r else s1
    | _, _ => s1
  | none => s1

/-- A read whose gather is complete is in hand (R131). -/
def readDue (s : State) : Bool :=
  decide (s.hpc.state = .gathering) &&
    match s.rg with
    | some g => g.complete
    | none => false

/-- The read is answered when its gather is complete (R131). -/
def answerRead (s : State) : State :=
  if readDue s then
    match s.rg with
    | some g => finishRead s g
    | none => s
  else s

/-! ## Writes -/

/-- A write whose last pixel is accepted is answered, and the MB is notified (R61, R94). -/
def finishWrite (s : State) : State := completionNotification (answer s false 0)

/-- The access record with its next pixel advanced (R50, R60). -/
def withNext (s : State) (a : AccessRecord) (next : Nat) : State :=
  { s with hpc := { s.hpc with access := some { a with next := next } } }

/-- The pixels still to be placed are handed on until one waits or the write is answered (R60, R61). That no other event (a FLUSH, a RESTART,
an idle expiry, a hold request) comes between two placements of one access unless the later pixel waits is the model's choice: R60, R97 and R98
leave it open. DESIGN CHOICE (log entry 27). -/
def continueWrite (s : State) (a : AccessRecord) : State :=
  let r := placeList s (a.list.drop a.next)
  let s1 := withNext r.1 a (a.next + r.2)
  if a.list.length ≤ a.next + r.2 then finishWrite s1 else s1

/-- The pixel that waits, if a write is in PLACING with a pixel left (R90). -/
def waitingWrite (s : State) : Option AccessRecord :=
  if s.hpc.state = .placing then
    match s.hpc.access with
    | some a => if a.next < a.list.length then some a else none
    | none => none
  else none

/-- A pixel waits and an entry is FREE (R91). -/
def placementDue (s : State) : Bool := (waitingWrite s).isSome && (lowestFree s).isSome

/-- The waiting placement is taken and the HPC goes on with the write (R91, R60). -/
def takeWaitingPlacement (s : State) : State :=
  if placementDue s then
    match waitingWrite s with
    | some a => continueWrite s a
    | none => s
  else s

/-! ## The claim -/

/-- The access record of a claim, before its pixel list is formed; the write data is sampled for a write alone (R48, R50, R53). -/
def claimRecord (l : HostLines) (claimant : Option Origin) (snapshot : Option Region) : AccessRecord :=
  ⟨if l.hwr then .write else .read, 4 * l.ha.toNat, l.hlane, if l.hwr then l.hwd else 0, claimant, snapshot, [], 0⟩

/-- The access is refused: its record stays, the fault is reported and the answer is an error (R54 to R56, R173). -/
def refuseAccess (s : State) (a : AccessRecord) (kind : FaultKind) (origin : Option Origin) : State :=
  answer (recordFault { s with hpc := { s.hpc with access := some a } } (hostFault kind origin a.direction a.address)) true 0

/-- An access that passed its checks goes to work with its pixel list: a write to PLACING, a read to GATHERING (R60 to R62). -/
def startAccess (s : State) (a : AccessRecord) (origin : Origin) (f : Format) : State :=
  match a.direction with
  | .write =>
    if a.list = [] then answer { s with hpc := { s.hpc with access := some a } } false 0
    else continueWrite { s with hpc := { s.hpc with state := .placing, access := some a } } a
  | .read => answerRead (planRead { s with hpc := { s.hpc with state := .gathering, access := some a } } origin f a.list)

/-- The access field refuses the direction (R55, R17). -/
def accessRefused : Access → Direction → Bool
  | .rw, _ => false
  | .ro, .write => true
  | .ro, .read => false
  | .wo, .read => true
  | .wo, .write => false

/-- The claim of a region: the checks, the reservation of a stream access and the pixel list (R53 steps 3 to 6, R69 to R71). -/
def claimRegion (s : State) (l : HostLines) (n : Fin 8) : State :=
  let r := s.rt[n]
  let a := claimRecord l (some (.region n)) (some r)
  if accessRefused r.access a.direction then refuseAccess s a .accessDenied (some (.region n))
  else if r.format = .p16 ∧ splitsPair l.hlane then refuseAccess s a .pixelSplit (some (.region n))
  else
    match r.kind with
    | .mapped => startAccess s { a with list := mappedList r n l.hwr a.address l.hlane l.hwd } (.region n) r.format
    | .stream =>
      let count := (enabledUnits r.format l.hlane).length
      let moved := if l.hwr = false ∧ r.revisit = true then r else { r with cursor := r.advance count r.cursor }
      startAccess { s with rt := s.rt.set n moved }
        { a with list := streamList r n l.hwr l.hlane l.hwd (r.reserveFrom count r.cursor) } (.region n) r.format

/-- A request that may be taken: answered at once when no lane is enabled, else claimed from the lines as they stand (R51, R53). -/
def takeRequest (s : State) : State :=
  let l := s.inp.lines
  if l.hlane = 0 then answer s false 0
  else
    match claimantOf s (4 * l.ha.toNat) with
    | none => refuseAccess s (claimRecord l none none) .unclaimed none
    | some (.region n) => claimRegion s l n
    | some .pass =>
      startAccess s { claimRecord l (some .pass) none with list := passList l.hwr (4 * l.ha.toNat) l.hlane l.hwd } .pass .p8

/-- HREQ is seen high in IDLE: a request with no lane enabled is answered, one seen during RESTART is deferred, and any other is
claimed (R49, R51, R52, R53). -/
def seeRequest (s : State) : State :=
  if s.cmu.restarting ∧ s.inp.lines.hlane ≠ 0 then { s with hpc := { s.hpc with state := .deferred } } else takeRequest s

end Sys2Proof.Machine
end

