-- ==== Sys2Proof/Machine/Due.lean ====
section
/-! DEFINITION. The bridge's own events that the rules place in the very event that makes them possible: a waiting placement taken
(R91), a read answered (R131), FLUSH_DONE set (R168), the port granted (R142 to R145) and the end of RESTART (R170). Each is a row
of the table and so a command of its own; `takeDue` takes those that are due, and every other command does so before its own
effect, so that nothing can come between an event and what belongs to it (log entry 2). -/

namespace Sys2Proof.Machine

/-! ## FLUSH_DONE -/

/-- The flush mark has been reached and FLUSH_DONE is still clear (R111, R168). -/
def flushDoneDue (s : State) : Bool := !s.cmu.flushDone && decide (s.cmu.flushMark = some 0)

/-- FLUSH_DONE is set when the flush mark has reached 0 (R168). -/
def setFlushDone (s : State) : State := if flushDoneDue s then { s with cmu := { s.cmu with flushDone := true } } else s

/-! ## The grant -/

/-- The MSQ has no operation of the bridge on the port and begins none unasked: IDLE or STUCK (R145). -/
def portFree (s : State) : Bool := decide (s.msq.state = .idle) || decide (s.msq.state = .stuck)

/-- The policy of the request when its grant condition holds (R143, R144). -/
def grantDue (s : State) : Option HoldPolicy :=
  match s.hld.state with
  | .none => none
  | .granted _ => none
  | .pending .immediate => if portFree s then some .immediate else none
  | .pending .drainFirst => if portFree s && decide (s.hld.drainMark = some 0) then some .drainFirst else none

/-- The grant: GRANTED, the MSQ HELD with the outputs floated, the latch invalidated, the drain mark removed (R145, R125, R139). -/
def grantPort (s : State) (p : HoldPolicy) : State :=
  { s with
    hld := ⟨.granted p, none⟩
    msq := { s.msq with state := .held, op := none, timer := none, stuckOf := none, port := .floated }
    ral := s.ral.invalidate }

/-- The port is granted when the grant condition holds (R145). -/
def takeGrant (s : State) : State :=
  match grantDue s with
  | some p => grantPort s p
  | none => s

/-! ## The end of RESTART -/

/-- A host access is in flight (R49). -/
def accessInFlight (s : State) : Bool := decide (s.hpc.state = .placing) || decide (s.hpc.state = .gathering)

/-- RESTART is in progress and its three conditions hold (R170). -/
def restartEndDue (s : State) : Bool := s.cmu.restarting && allFree s && decide (s.mq = []) && !accessInFlight s

/-- Steps 1 to 6 of the end of RESTART: the table, the settings, the latch, FLUSH_DONE, the last result, RESTARTING (R170, R34). -/
def restartReset (s : State) : State :=
  { s with rt := Vector.replicate 8 .reset, cmu := .reset, ral := .reset }

/-- The end of RESTART: the resets, then a request waiting in DEFERRED is taken (R170, R52). -/
def endRestart (s : State) : State :=
  if restartEndDue s then
    if s.hpc.state = .deferred then takeRequest (restartReset s) else restartReset s
  else s

/-! ## All of them -/

/-- Nothing is due: every event's own work has been done. -/
def settled (s : State) : Bool :=
  !placementDue s && !readDue s && !flushDoneDue s && (grantDue s).isNone && !restartEndDue s

/-- The due events are taken, one after another (log entry 2). Their order is the model's where one event makes several possible: a
STUCK drop that ends a stream read's last word and brings the drain mark to 0 has the answer, and the prefetch it issues, before the
grant, which then drops that prefetch; R131, R136, R139 and R144 give no order. DESIGN CHOICE (log entry 26). -/
def takeDue (s : State) : State := endRestart (takeGrant (setFlushDone (answerRead (takeWaitingPlacement s))))

end Sys2Proof.Machine
end

