-- ==== Sys2Proof/Machine/HostPort.lean ====
section
/-! DEFINITION. The rows of the host port: HOST_REQUEST, READ_ANSWER, HREQ_LOW, WAITING_PLACEMENT_TAKEN (chapters 4, 6 and 8). -/

namespace Sys2Proof.Machine

/-- What every row of a running part begins with: while RSTN is asserted nothing happens (R126, R150), and otherwise the events
already due are taken first (log entry 2). -/
def running (own : State → State) (s : State) : State := if s.inp.rstn then own (takeDue s) else s

/-- The request lines at the levels the host drives (R48). -/
def driveRequest (s : State) (l : HostLines) : State := { s with inp := { s.inp with hreq := true, lines := l } }

/-- HREQ low: ANSWERED and DEFERRED return to IDLE; an access in flight is not cancelled (R48, R49, R52). -/
def hreqLowEvent (s : State) : State :=
  let s1 := { s with inp := { s.inp with hreq := false } }
  if s.hpc.state = .answered ∨ s.hpc.state = .deferred then
    { s1 with hpc := { s1.hpc with state := .idle, access := none } }
  else s1

/-- HOST_REQUEST (R53): taken when the HPC is in IDLE at this event; in any other state HREQ and the lines only change level (R48,
R49), and so they do in the event of an answer that falls due (log entry 6). While RSTN is asserted the lines only change level (R65). -/
def execHostRequest (write : Bool) (address : BitVec 22) (lanes : BitVec 4) (data : HostWord) (s : State) :
    Host.Outcome State Fault Refusal :=
  let l : HostLines := ⟨write, address, lanes, data⟩
  if s.inp.rstn then
    if s.hpc.state = .idle then .next (seeRequest (endAnswer (driveRequest (takeDue s) l)))
    else .next (driveRequest (takeDue s) l)
  else .next (driveRequest s l)

/-- READ_ANSWER (R131). -/
def execReadAnswer (s : State) : Host.Outcome State Fault Refusal :=
  if s.inp.rstn ∧ readDue s then .next (answerRead s) else .next (running id s)

/-- HREQ_LOW (R48, R52). An earlier answer's HDONE ends first, so that an answer that falls due here has its own (log entry 6). While
RSTN is asserted HREQ only changes level. -/
def execHreqLow (s : State) : Host.Outcome State Fault Refusal :=
  if s.inp.rstn then .next (hreqLowEvent (takeDue (endAnswer s))) else .next { s with inp := { s.inp with hreq := false } }

/-- WAITING_PLACEMENT_TAKEN (R91): the waiting pixel is placed by R85, which opens the entry that has just become FREE. -/
def execWaitingPlacementTaken (s : State) : Host.Outcome State Fault Refusal :=
  if s.inp.rstn ∧ placementDue s then .next (takeWaitingPlacement s) else .next (running id s)

end Sys2Proof.Machine
end

