-- ==== Sys2Proof/Machine/Sequencer.lean ====
section
/-! DEFINITION. The rows of the merge buffer's timers and of the memory sequencer: IDLE_EXPIRY, and BEGIN_ITEM to STUCK_END
(chapters 6 and 7). A row whose event cannot come about in the present state changes nothing (log entry 3). -/

namespace Sys2Proof.Machine

/-! ## Idle expiry -/

/-- The counting timer of an OPEN entry expires and the entry closes; AT_ANSWER does not count (R93, R94). -/
def expireEntry (i : Fin 8) (s : State) : State :=
  match s.mb[i] with
  | some e =>
    match e.state with
    | .opened (.count _) => closeEntry s i
    | .opened .atAnswer => s
    | .closed => s
    | .active _ => s
  | none => s

/-- IDLE_EXPIRY of entry n (R94). -/
def execIdleExpiry (n : Nat) (s : State) : Host.Outcome State Fault Refusal :=
  .next (running (fun u => if h : n < 8 then expireEntry ⟨n, h⟩ u else u) s)

/-! ## Beginning an item -/

/-- The strobe write of an entry begins (R102, R116). -/
def beginStrobeWrite (s : State) (i : Fin 8) (e : Entry) : State :=
  beginOp { s with mb := s.mb.set i (some { e with state := .active .strobeWrite }) } .writing
    ⟨.entry i, e.word, .strobeWrite, .ready⟩ .write true (strobeSet e.format e.coverage) (some e.operand)

/-- The read of an entry's read-modify-write begins (R103, R117). -/
def beginRmw (s : State) (i : Fin 8) (e : Entry) : State :=
  beginOp { s with mb := s.mb.set i (some { e with state := .active .rmwRead }) } .reading
    ⟨.entry i, e.word, .rmw none, .ready⟩ .write false 3#2 none

/-- The read of a READ item begins (R118). -/
def beginRead (s : State) (x : Item) (word : Nat) : State := beginOp s .reading ⟨x, word, .read, .ready⟩ .read false 3#2 none

/-- The head item is begun; an entry becomes ACTIVE with its operation decided (R101, R114). -/
def beginHead (s : State) : State :=
  match s.mq with
  | .entry i :: _ =>
    match s.mb[i] with
    | some e =>
      match phaseAtActive e.format e.op e.coverage with
      | .strobeWrite => beginStrobeWrite s i e
      | .rmwRead => beginRmw s i e
      | .rmwWrite => s
    | none => s
  | .gather w index o :: _ => beginRead s (.gather w index o) w
  | .prefetch w o :: _ => beginRead s (.prefetch w o) w
  | [] => s

/-- The MSQ is IDLE, MRDY is low and the HLD permits the head item (R114). -/
def mayBegin (s : State) : Bool := decide (s.msq.state = .idle) && !s.inp.mrdy && headPermitted s

/-- The head item is begun when R114 permits it. -/
def beginItemEvent (s : State) : State := if mayBegin s then beginHead s else s

/-- BEGIN_ITEM (R114). -/
def execBeginItem (s : State) : Host.Outcome State Fault Refusal := .next (running beginItemEvent s)

/-! ## Completions -/

/-- The operation in flight, in the given MSQ state and step. -/
def opIn (s : State) (st : MsqState) (step : OpStep) : Option Operation :=
  if s.msq.state = st then
    match s.msq.op with
    | some o => if o.step = step then some o else none
    | none => none
  else none

/-- The head item's entry becomes FREE and the item is removed (R104, R110). -/
def endEntryItem (s : State) : Item → State
  | .entry i => removeHead (freeEntry s i)
  | .gather _ _ _ => s
  | .prefetch _ _ => s

/-- A write's completion (R116, R117): the entry becomes FREE, its item is removed and MCS drops. -/
def writeCompletes (s : State) (o : Operation) : State := endEntryItem (completeOp s o) o.item

/-- MRDY high in the ready step of a strobe write (R116). -/
def strobeWriteCompleteEvent (s : State) : State :=
  match opIn s .writing .ready with
  | some o =>
    match o.kind with
    | .strobeWrite => writeCompletes s o
    | .rmw _ => s
    | .read => s
  | none => s

/-- STROBE_WRITE_COMPLETE (R116). -/
def execStrobeWriteComplete (s : State) : Host.Outcome State Fault Refusal := .next (running strobeWriteCompleteEvent s)

/-- The level of MD is recorded as sampled (R115). -/
def sampleMd (s : State) (md : Word) : State := { s with inp := { s.inp with md := md } }

/-- The read of a read-modify-write completes: the new word is formed and the entry goes to RMW_WRITE (R103, R117). -/
def rmwReadCompletes (s : State) (o : Operation) (i : Fin 8) (e : Entry) (md : Word) : State :=
  completeOp { (sampleMd s md) with mb := s.mb.set i (some { e with state := .active .rmwWrite }) }
    { o with kind := .rmw (some (applyToWord e.format e.op e.coverage e.operand md)) }

/-- MRDY high in the ready step of a read-modify-write's read (R117). -/
def rmwReadCompleteEvent (md : Word) (s : State) : State :=
  match opIn s .reading .ready with
  | some o =>
    match o.kind, o.item with
    | .rmw _, .entry i =>
      match s.mb[i] with
      | some e => rmwReadCompletes s o i e md
      | none => s
    | _, _ => s
  | none => s

/-- RMW_READ_COMPLETE (R117). -/
def execRmwReadComplete (md : Word) (s : State) : Host.Outcome State Fault Refusal := .next (running (rmwReadCompleteEvent md) s)

/-- MRDY high in the ready step of a read-modify-write's write (R117). -/
def rmwWriteCompleteEvent (s : State) : State :=
  match opIn s .writing .ready with
  | some o =>
    match o.kind with
    | .rmw _ => writeCompletes s o
    | .strobeWrite => s
    | .read => s
  | none => s

/-- RMW_WRITE_COMPLETE (R117). -/
def execRmwWriteComplete (s : State) : Host.Outcome State Fault Refusal := .next (running rmwWriteCompleteEvent s)

/-- MRDY high in the ready step of a READ item: the word goes to the RG or the RAL and the item is removed (R118). -/
def readCompleteEvent (md : Word) (s : State) : State :=
  match opIn s .reading .ready with
  | some o =>
    match o.kind with
    | .read => removeHead (deliverRead (completeOp (sampleMd s md) o) md o.item)
    | .strobeWrite => s
    | .rmw _ => s
  | none => s

/-- READ_COMPLETE (R118). -/
def execReadComplete (md : Word) (s : State) : Host.Outcome State Fault Refusal := .next (running (readCompleteEvent md) s)

/-! ## Release -/

/-- MRDY low in a release step: the write of a read-modify-write begins after its read, otherwise the MSQ returns to IDLE
(R115 to R118). -/
def mrdyReleaseEvent (s : State) : State :=
  match opIn s .reading .release with
  | some o =>
    match o.kind with
    | .rmw (some w) => beginOp (seeMrdy s false) .writing { o with step := .ready } .write true 3#2 (some w)
    | .rmw none => msqIdle (seeMrdy s false)
    | .strobeWrite => msqIdle (seeMrdy s false)
    | .read => msqIdle (seeMrdy s false)
  | none =>
    match opIn s .writing .release with
    | some _ => msqIdle (seeMrdy s false)
    | none => s

/-- MRDY_RELEASE (R115). -/
def execMrdyRelease (s : State) : Host.Outcome State Fault Refusal := .next (running mrdyReleaseEvent s)

/-! ## Timeouts and recovery -/

/-- The entry named by an item fails: its fault is recorded, it becomes FREE and the item is removed (R104, R120, R123). -/
def failEntryItem (s : State) (i : Fin 8) (kind : FaultKind) : State :=
  match s.mb[i] with
  | some e => removeHead (freeEntry (recordFault s (entryFault kind e)) i)
  | none => s

/-- A READ item fails: its fault is recorded, the RG or the RAL is told, and the item is removed (R120, R123). -/
def failReadItem (s : State) (kind : FaultKind) : Item → State
  | .gather w index o => removeHead (failRead (recordFault s (readFaultRecord kind w o .gather)) (.gather w index o))
  | .prefetch w o => removeHead (failRead (recordFault s (readFaultRecord kind w o .prefetch)) (.prefetch w o))
  | .entry _ => s

/-- What a first expiry does to the head item (R120's table): which fault an entry's operation records, if its item is still there. -/
def timeoutKind (st : MsqState) (o : Operation) : Option FaultKind :=
  match o.kind, o.step with
  | .strobeWrite, .ready => some .writeTimeout
  | .strobeWrite, .release => none
  | .rmw none, _ => some .rmwReadTimeout
  | .rmw (some _), .ready => some .writeTimeout
  | .rmw (some _), .release => if st = .reading then some .writeTimeout else none
  | .read, .ready => some .readTimeout
  | .read, .release => none

/-- The head item is ended by a first expiry, if its operation has not completed (R120). -/
def timeoutItem (s : State) (o : Operation) : State :=
  match timeoutKind s.msq.state o with
  | some k =>
    match o.item with
    | .entry i => failEntryItem s i k
    | .gather w index org => failReadItem s k (.gather w index org)
    | .prefetch w org => failReadItem s k (.prefetch w org)
  | none => s

/-- A first expiry in READING or WRITING: MCS drops, the head item ends if it must, and RECOVER begins (R120). -/
def readyTimeoutEvent (s : State) : State :=
  match s.msq.op with
  | some o =>
    if s.msq.state = .reading ∨ s.msq.state = .writing then msqRecover (timeoutItem s o) s.msq.last else s
  | none => s

/-- READY_TIMEOUT (R120). -/
def execReadyTimeout (s : State) : Host.Outcome State Fault Refusal := .next (running readyTimeoutEvent s)

/-- The MEMORY_STUCK record of a second expiry (R121, R175). -/
def stuckFault (of : Option (Nat × Direction)) : FaultRecord :=
  ⟨.memoryStuck, none, (of.map Prod.snd).getD .read, none, of.map Prod.fst, none⟩

/-- A second expiry, in RECOVER (R121). -/
def secondExpiryEvent (s : State) : State :=
  if s.msq.state = .recover then msqStuck (recordFault s (stuckFault s.msq.stuckOf)) else s

/-- SECOND_EXPIRY (R121). -/
def execSecondExpiry (s : State) : Host.Outcome State Fault Refusal := .next (running secondExpiryEvent s)

/-- MRDY falls in RECOVER (R121; log entry 10). -/
def recoverEndEvent (s : State) : State := if s.msq.state = .recover then msqIdle (seeMrdy s false) else s

/-- RECOVER_END (R121). -/
def execRecoverEnd (s : State) : Host.Outcome State Fault Refusal := .next (running recoverEndEvent s)

/-- MRDY rises unasked: from IDLE to RECOVER without a fault; in RECOVER, STUCK and HELD it changes nothing but the level
(R121, R122, R124, R125). -/
def unsolicitedReadyEvent (s : State) : State :=
  match s.msq.state with
  | .idle => msqRecover (seeMrdy s true) none
  | .recover => seeMrdy s true
  | .stuck => seeMrdy s true
  | .held => seeMrdy s true
  | .reading => s
  | .writing => s

/-- UNSOLICITED_READY (R122). -/
def execUnsolicitedReady (s : State) : Host.Outcome State Fault Refusal := .next (running unsolicitedReadyEvent s)

/-! ## Stuck -/

/-- The head item is ended without memory access (R123). -/
def dropHead (s : State) : State :=
  match s.mq with
  | .entry i :: _ => failEntryItem s i .droppedStuck
  | .gather w index o :: _ => failReadItem s .droppedStuck (.gather w index o)
  | .prefetch w o :: _ => failReadItem s .droppedStuck (.prefetch w o)
  | [] => s

/-- A drop in STUCK, when the HLD permits it (R123). -/
def stuckDropEvent (s : State) : State := if s.msq.state = .stuck ∧ headPermitted s then dropHead s else s

/-- STUCK_DROP (R123). -/
def execStuckDrop (s : State) : Host.Outcome State Fault Refusal := .next (running stuckDropEvent s)

/-- MRDY is seen low in STUCK (R124). -/
def stuckEndEvent (s : State) : State := if s.msq.state = .stuck then msqIdle (seeMrdy s false) else s

/-- STUCK_END (R124). -/
def execStuckEnd (s : State) : Host.Outcome State Fault Refusal := .next (running stuckEndEvent s)

end Sys2Proof.Machine
end

