-- ==== Sys2Proof/Machine/Hold.lean ====
section
/-! DEFINITION. The rows of the hold lines and of the reset: HOLD_REQUEST to HOLD_RELEASE, RSTN_ASSERT, RSTN_RELEASE and
MHOLD_DURING_RESET (chapter 9, and the reset rules of every chapter). -/

namespace Sys2Proof.Machine

/-! ## Hold -/

/-- A request taken out of NONE: PENDING with the policy setting, and under DRAIN_FIRST every OPEN entry closes and the drain mark
is placed at the tail (R98, R142). -/
def takeHoldRequest (s : State) : State :=
  match s.cmu.settings.holdPolicy with
  | .immediate => { s with inp := { s.inp with mhold := true }, hld := ⟨.pending .immediate, none⟩ }
  | .drainFirst =>
    let s1 := closeAllOpen s
    { s1 with inp := { s1.inp with mhold := true }, hld := ⟨.pending .drainFirst, some s1.mq.length⟩ }

/-- MHOLD rises (R142). -/
def holdRequestEvent (s : State) : State :=
  match s.hld.state with
  | .none => takeHoldRequest s
  | .pending _ => s
  | .granted _ => s

/-- HOLD_REQUEST (R142). The grant, when its condition holds at once, is due after it. -/
def execHoldRequest (s : State) : Host.Outcome State Fault Refusal := .next (running holdRequestEvent s)

/-- HOLD_GRANT (R145). -/
def execHoldGrant (s : State) : Host.Outcome State Fault Refusal :=
  if s.inp.rstn ∧ (grantDue s).isSome then .next (takeGrant s) else .next (running id s)

/-- The port comes back: NONE, and the MSQ enters STUCK if MRDY is high and IDLE if it is low (R148, R125). That the head item is begun from
this IDLE by a later event is the model's choice between R114 and R148. DESIGN CHOICE (log entry 29). -/
def releasePort (s : State) (mrdy : Bool) : State :=
  let s1 := { (seeMrdy s mrdy) with hld := ⟨.none, none⟩ }
  if mrdy then msqStuck s1 else msqIdle s1

/-- A PENDING request is withdrawn: NONE, the drain mark removed, and from IDLE the head item is begun in this event (R147, R114). -/
def withdrawHold (s : State) : State := beginItemEvent { s with hld := ⟨.none, none⟩ }

/-- MHOLD falls: a PENDING request is withdrawn, a GRANTED port is released (R147, R148). -/
def mholdFalls (mrdy : Bool) (s : State) : State :=
  let s1 := { s with inp := { s.inp with mhold := false } }
  match s.hld.state with
  | .none => s1
  | .pending _ => withdrawHold s1
  | .granted _ => releasePort s1 mrdy

/-- HOLD_WITHDRAW (R147). If the grant is taken first the fall of MHOLD is a release, with MRDY at its present level. -/
def execHoldWithdraw (s : State) : Host.Outcome State Fault Refusal := .next (running (fun u => mholdFalls u.inp.mrdy u) s)

/-- HOLD_RELEASE (R148). -/
def execHoldRelease (mrdy : Bool) (s : State) : Host.Outcome State Fault Refusal := .next (running (mholdFalls mrdy) s)

/-! ## Reset -/

/-- The memory outputs while RSTN is asserted: floated whenever MHOLD is high (R150). -/
def resetPort (mhold : Bool) : MemPort := if mhold then .floated else .deselected

/-- RSTN asserted: every block at its reset values; the operation in flight and all work are abandoned
(R15, R65, R106, R112, R126, R133, R150, R159, R164, R168, R171, R179). The input pins keep their levels. -/
def assertReset (s : State) : State where
  inp := { s.inp with rstn := false }
  hpc := .reset
  rt := Vector.replicate 8 .reset
  mb := Vector.replicate 8 none
  mq := []
  msq := { Msq.reset with port := resetPort s.inp.mhold }
  rg := none
  ral := .reset
  hld := .reset
  cfl := .reset
  cmu := .reset
  flog := .reset
  pending := s.pending

/-- RSTN_ASSERT (R126). -/
def execRstnAssert (s : State) : Host.Outcome State Fault Refusal := .next (assertReset s)

/-- RSTN released: the HLD and the MSQ take GRANTED and HELD, or NONE and IDLE, from MHOLD; the CFL is in WAIT_DESELECT, and passes
to IDLE at once when LSEL is high (R126, R150, R151). That an HREQ already high is not seen in this event, but in a later CLK period or
HOST_REQUEST, is the model's choice where R65 does not say how soon. DESIGN CHOICE (log entry 28). -/
def releaseReset (mrdy : Bool) (s : State) : State :=
  { s with
    inp := { s.inp with rstn := true, mrdy := mrdy }
    hld := if s.inp.mhold then ⟨.granted .immediate, none⟩ else .reset
    msq := if s.inp.mhold then { Msq.reset with state := .held, port := .floated } else .reset
    cfl := if s.inp.lsel then { Cfl.reset with state := .idle } else .reset }

/-- RSTN_RELEASE (R150). -/
def execRstnRelease (mrdy : Bool) (s : State) : Host.Outcome State Fault Refusal :=
  if s.inp.rstn then .next (running id s) else .next (releaseReset mrdy s)

/-- MHOLD_DURING_RESET (R150): MHLDA follows MHOLD, and the memory outputs are floated or driven to match. -/
def execMholdDuringReset (level : Bool) (s : State) : Host.Outcome State Fault Refusal :=
  if s.inp.rstn then .next (running id s)
  else .next { s with inp := { s.inp with mhold := level }, msq := { s.msq with port := resetPort level } }

end Sys2Proof.Machine
end

