-- ==== Sys2Proof/Machine/LinkCommands.lean ====
section
/-! DEFINITION. What each link command does at its apply point, from its parameter bytes: its checks in order and, when they pass,
its effect and its response (R20, R154, R160 to R169). -/

namespace Sys2Proof.Machine

/-- The outcome of a command at its apply point: refused with a result, or taken with result OK and perhaps response bytes. -/
inductive LinkOutcome where
  | refused (r : ResultCode)
  | taken (s : State) (response : List Byte) (report : Report)
deriving Repr

/-- Taken with no response bytes. -/
def taken (s : State) : LinkOutcome := .taken s [] .plain

/-! ## Region commands -/

/-- Check 1 of R20: the region number is 0..7. -/
def withRegion (s : State) (params : List Byte) (k : Fin 8 → Region → LinkOutcome) : LinkOutcome :=
  if h : paramNumber params 0 1 < 8 then k ⟨paramNumber params 0 1, h⟩ s.rt[paramNumber params 0 1] else .refused .badRegion

/-- A region record is written (R16, R23). -/
def putRegion (s : State) (n : Fin 8) (r : Region) : LinkOutcome := taken { s with rt := s.rt.set n r }

/-- READ_REGION (R29, R162). -/
def readRegionOutcome (params : List Byte) (s : State) : LinkOutcome :=
  withRegion s params fun n r => .taken s (regionBytes n.val r) .plain

/-- SET_WINDOW (R163): region; window base (3); window length (3). -/
def setWindowOutcome (params : List Byte) (s : State) : LinkOutcome :=
  withRegion s params fun n r =>
    let base := paramNumber params 1 3
    let length := paramNumber params 4 3
    if r.enabled then .refused .regionEnabled
    else if base ≤ 16777212 ∧ base % 4 = 0 ∧ length ≤ 4194304 then
      putRegion s n { r with windowBase := base, windowLength := length }
    else .refused .badValue

/-- SET_SURFACE (R1, R163): region; base (3); pitch (2); width (2); height (2); format. -/
def setSurfaceOutcome (params : List Byte) (s : State) : LinkOutcome :=
  withRegion s params fun n r =>
    let base := paramNumber params 1 3
    let pitch := paramNumber params 4 2
    let width := paramNumber params 6 2
    let height := paramNumber params 8 2
    if r.enabled then .refused .regionEnabled
    else
      match Format.ofCode (paramNumber params 10 1) with
      | none => .refused .badValue
      | some f =>
        if base ≤ 1048575 ∧ (1 ≤ pitch ∧ pitch ≤ 4096) ∧ (1 ≤ width ∧ width ≤ 4096) ∧ (1 ≤ height ∧ height ≤ 4096) then
          putRegion s n { r with base := base, pitch := pitch, width := width, height := height, format := f }
        else .refused .badValue

/-- SET_MODE (R17, R163): region; mode byte A; mode byte B. -/
def setModeOutcome (params : List Byte) (s : State) : LinkOutcome :=
  withRegion s params fun n r =>
    if r.enabled then .refused .regionEnabled
    else
      match modeOf r (params.getD 1 0) (params.getD 2 0) with
      | none => .refused .badValue
      | some r' => putRegion s n r'

/-- SET_BAND (R19, R163): region; band top (2); band rows (2). The scroll offset stays as it stands. -/
def setBandOutcome (params : List Byte) (s : State) : LinkOutcome :=
  withRegion s params fun n r =>
    let top := paramNumber params 1 2
    let rows := paramNumber params 3 2
    if r.enabled then .refused .regionEnabled
    else if top ≤ 4095 ∧ rows ≠ 1 ∧ rows ≤ 4096 then putRegion s n { r with bandTop := top, bandRows := rows }
    else .refused .badValue

/-- SET_SCROLL (R21, R22, R46): region; offset (2). -/
def setScrollOutcome (params : List Byte) (s : State) : LinkOutcome :=
  withRegion s params fun n r =>
    let offset := paramNumber params 1 2
    if 4095 < offset then .refused .badValue
    else if r.enabled ∧ r.scrollFits offset = false then .refused .badValue
    else putRegion s n { r with scroll := offset }

/-- SET_CURSOR_WINDOW (R21, R22, R74): region; x0 (2); x1 (2); y0 (2); y1 (2). -/
def setCursorWindowOutcome (params : List Byte) (s : State) : LinkOutcome :=
  withRegion s params fun n r =>
    let x0 := paramNumber params 1 2
    let x1 := paramNumber params 3 2
    let y0 := paramNumber params 5 2
    let y1 := paramNumber params 7 2
    if r.kind = .mapped then .refused .wrongKind
    else if ¬ (x0 ≤ x1 ∧ x1 ≤ 4095 ∧ y0 ≤ y1 ∧ y1 ≤ 4095) then .refused .badValue
    else if r.enabled ∧ r.cursorWindowFits x1 y1 = false then .refused .badValue
    else putRegion s n { r with x0 := x0, x1 := x1, y0 := y0, y1 := y1, cursor := ⟨x0, y0⟩, revisit := false, mark := none }

/-- SET_CURSOR (R21, R75): region; cx (2); cy (2). -/
def setCursorOutcome (params : List Byte) (s : State) : LinkOutcome :=
  withRegion s params fun n r =>
    let p : Position := ⟨paramNumber params 1 2, paramNumber params 3 2⟩
    if r.kind = .mapped then .refused .wrongKind
    else if 4095 < p.x ∨ 4095 < p.y ∨ r.inCursorWindow p = false then .refused .badValue
    else putRegion s n { r with cursor := p }

/-- REVISIT_BEGIN (R76). -/
def revisitBeginOutcome (params : List Byte) (s : State) : LinkOutcome :=
  withRegion s params fun n r =>
    if r.kind = .mapped then .refused .wrongKind
    else if r.enabled = false ∨ r.revisit = true then .refused .wrongState
    else putRegion s n { r with revisit := true, mark := some r.cursor }

/-- REVISIT_END (R77): the cursor goes to the mark, which is held exactly in revisit mode (R15). -/
def revisitEndOutcome (params : List Byte) (s : State) : LinkOutcome :=
  withRegion s params fun n r =>
    if r.kind = .mapped then .refused .wrongKind
    else if r.enabled = false ∨ r.revisit = false then .refused .wrongState
    else putRegion s n { r with revisit := false, mark := none, cursor := r.mark.getD r.cursor }

/-- ENABLE (R24, R25). -/
def enableOutcome (params : List Byte) (s : State) : LinkOutcome :=
  withRegion s params fun n r =>
    if r.enabled then .refused .regionEnabled
    else if r.enableChecks (memoryWords s.cmu.settings.memorySize) then putRegion s n { r with enabled := true }
    else .refused .badGeometry

/-- DISABLE (R27). -/
def disableOutcome (params : List Byte) (s : State) : LinkOutcome :=
  withRegion s params fun n r =>
    if r.enabled then putRegion s n { r with enabled := false, revisit := false, mark := none } else taken s

/-! ## Settings -/

/-- A settings record is written (R164). -/
def putSettings (s : State) (x : Settings) : LinkOutcome := taken { s with cmu := { s.cmu with settings := x } }

/-- SET_TIMING (R166): idle close delay; ready timeout (2). -/
def setTimingOutcome (params : List Byte) (s : State) : LinkOutcome :=
  let timeout := paramNumber params 1 2
  if 16 ≤ timeout ∧ timeout ≤ 4095 then
    putSettings s { s.cmu.settings with idleDelay := paramNumber params 0 1, readyTimeout := timeout }
  else .refused .badValue

/-- Some region is ENABLED (R12, R167). -/
def anyEnabled (s : State) : Bool := allEight.any fun n => (s.rt[n]).enabled

/-- SET_MEMORY (R12, R167): memory size; pass-through; hold policy. -/
def setMemoryOutcome (params : List Byte) (s : State) : LinkOutcome :=
  let size := paramNumber params 0 1
  let pass := paramNumber params 1 1
  let policy := paramNumber params 2 1
  if anyEnabled s then .refused .inUse
  else if (1 ≤ size ∧ size ≤ 16) ∧ pass ≤ 1 ∧ policy ≤ 1 then
    putSettings s
      { s.cmu.settings with
        memorySize := size
        passThrough := decide (pass = 1)
        holdPolicy := if policy = 1 then .drainFirst else .immediate }
  else .refused .badValue

/-! ## Reads, FLUSH and RESTART -/

/-- READ_STATUS (R160). -/
def readStatusOutcome (_params : List Byte) (s : State) : LinkOutcome := .taken s (statusBytes s) .plain

/-- READ_FAULT (R161, R177): the head record is reported and stays. -/
def readFaultOutcome (_params : List Byte) (s : State) : LinkOutcome :=
  .taken s (faultBytes s.flog) (.fault s.flog.records.head?)

/-- FLUSH (R97, R168). -/
def flushOutcome (_params : List Byte) (s : State) : LinkOutcome :=
  let s1 := closeAllOpen s
  taken { s1 with cmu := { s1.cmu with flushMark := some s1.mq.length, flushDone := decide (s1.mq.length = 0) } }

/-- RESTART (R99, R139, R169). -/
def restartOutcome (_params : List Byte) (s : State) : LinkOutcome :=
  let s1 := closeAllOpen s
  taken { s1 with cmu := { s1.cmu with restarting := true }, ral := s1.ral.invalidate }

/-- The outcome of each listed command. -/
def LinkCommand.outcome (c : LinkCommand) (params : List Byte) (s : State) : LinkOutcome :=
  match c with
  | .readStatus => readStatusOutcome params s
  | .readFault => readFaultOutcome params s
  | .readRegion => readRegionOutcome params s
  | .setWindow => setWindowOutcome params s
  | .setSurface => setSurfaceOutcome params s
  | .setMode => setModeOutcome params s
  | .setBand => setBandOutcome params s
  | .setScroll => setScrollOutcome params s
  | .setCursorWindow => setCursorWindowOutcome params s
  | .setCursor => setCursorOutcome params s
  | .revisitBegin => revisitBeginOutcome params s
  | .revisitEnd => revisitEndOutcome params s
  | .enable => enableOutcome params s
  | .disable => disableOutcome params s
  | .flush => flushOutcome params s
  | .setTiming => setTimingOutcome params s
  | .setMemory => setMemoryOutcome params s
  | .restart => restartOutcome params s

end Sys2Proof.Machine
end

