-- ==== Sys2Proof/Machine/Link.lean ====
section
/-! DEFINITION. The rows of the configuration link (chapter 10): the frame, the edges of LCLK, and each link command at its apply
point, which is the rising edge that delivers its last bit (R154). -/

namespace Sys2Proof.Machine

/-! ## The frame -/

/-- LSEL falls: in IDLE a frame begins in COMMAND with the staging record emptied and LDO driven 0; in any other state only the
level changes (R151, R152, R153). -/
def frameStartEvent (s : State) : State :=
  let s1 := { s with inp := { s.inp with lsel := false } }
  if s.cfl.state = .idle then { s1 with cfl := { Cfl.reset with state := .command, ldo := some false } } else s1

/-- A frame that ends before its apply point, and is not empty, is abandoned (R157). -/
def abandoned (c : Cfl) : Bool :=
  decide (c.state = .parameters) || (decide (c.state = .command) && decide (c.bitCount ≠ 0))

/-- LSEL rises: the CFL returns to IDLE with everything of the frame discarded and LDO not driven; an abandoned frame makes the
last result ABORTED (R151, R157, R158). -/
def frameEndEvent (s : State) : State :=
  { s with
    inp := { s.inp with lsel := true }
    cfl := { Cfl.reset with state := .idle }
    cmu := { s.cmu with lastResult := if abandoned s.cfl then .aborted else s.cmu.lastResult } }

/-- FRAME_START (R151). While RSTN is asserted LSEL only changes level. -/
def execFrameStart (s : State) : Host.Outcome State Fault Refusal :=
  if s.inp.rstn then .next (frameStartEvent (takeDue s)) else .next { s with inp := { s.inp with lsel := false } }

/-- FRAME_END (R151). While RSTN is asserted LSEL only changes level. -/
def execFrameEnd (s : State) : Host.Outcome State Fault Refusal :=
  if s.inp.rstn then .next (frameEndEvent (takeDue s)) else .next { s with inp := { s.inp with lsel := true } }

/-! ## The apply point -/

/-- What a rising edge with this LDI bit applies, if it is an apply point: a listed command (or an unlisted code) with its parameter
bytes (R153, R154). -/
def applyPoint (c : Cfl) (ldi : Bool) : Option (Option LinkCommand × List Byte) :=
  if c.bitCount = 7 then
    match c.state with
    | .command =>
      match LinkCommand.ofCode (shiftIn c.shifter ldi) with
      | none => some (none, [])
      | some k => if k.paramBytes = 0 then some (some k, []) else none
    | .parameters =>
      match c.code with
      | some k =>
        if k.paramBytes = c.params.length + 1 then some (some k, c.params ++ [shiftIn c.shifter ldi]) else none
      | none => none
    | .waitDeselect => none
    | .idle => none
    | .result => none
    | .response => none
    | .trailer => none
  else none

/-- The result byte and the response bytes go to the shifter, and the staging record is emptied (R151, R153, R156). -/
def toResult (s : State) (r : ResultCode) (response : List Byte) (report : Report) : State :=
  { s with
    cfl :=
      { s.cfl with
        state := .result
        byteCount := s.cfl.byteCount + 1
        bitCount := 0
        shifter := 0
        code := none
        params := []
        out := bitsOf r.code ++ response.flatMap bitsOf
        report := report } }

/-- The last result is stored (R155). -/
def storeResult (s : State) (r : ResultCode) : State := { s with cmu := { s.cmu with lastResult := r } }

/-- A refused command changes nothing but the last result (R154, R155). -/
def refuseCommand (s : State) (r : ResultCode) : State := toResult (storeResult s r) r [] .plain

/-- An unlisted code is applied at once with the result UNKNOWN_COMMAND (R153). -/
def applyUnknown (s : State) : State := refuseCommand s .unknownCommand

/-- A listed command at its apply point: BUSY while RESTART is in progress, then its own checks, then its effect (R154, R155). -/
def applyCommand (k : LinkCommand) (params : List Byte) (s : State) : State :=
  if s.cmu.restarting ∧ k.alwaysTaken = false then refuseCommand s .busy
  else
    match k.outcome params s with
    | .refused r => refuseCommand s r
    | .taken s' response report =>
      toResult (if k.alwaysTaken then s' else storeResult s' .ok) .ok response report

/-! ## Edges -/

/-- LCLK rises with LDI at a level (R152). -/
def driveRising (s : State) (ldi : Bool) : State := { s with inp := { s.inp with lclk := true, ldi := ldi } }

/-- A completed byte: the shifter is emptied and the byte counted (R152). -/
def Cfl.nextByte (c : Cfl) (st : FrameState) : Cfl :=
  { c with state := st, byteCount := c.byteCount + 1, bitCount := 0, shifter := 0 }

/-- One more bit of a byte. -/
def Cfl.nextBit (c : Cfl) : Cfl := { c with bitCount := c.bitCount + 1 }

/-- One more bit sampled from LDI. -/
def Cfl.sample (c : Cfl) (ldi : Bool) : Cfl := { c with bitCount := c.bitCount + 1, shifter := shiftIn c.shifter ldi }

/-- The edge at which the master samples the last bit of the last response byte (R151, R161). -/
def lastResponseBit (c : Cfl) : Bool := decide (c.state = .response) && decide (c.out.length = 1)

/-- The response ends: to TRAILER, and a READ_FAULT completes (R151, R161, R177). -/
def endResponse (s : State) : State :=
  { s with
    cfl := { s.cfl.nextByte .trailer with out := [], report := .plain }
    flog :=
      match s.cfl.report with
      | .plain => s.flog
      | .fault reported => s.flog.complete reported }

/-- A rising edge that is no apply point (R151 to R153, R156). Nothing is sampled in IDLE or WAIT_DESELECT. -/
def shiftEdge (ldi : Bool) (s : State) : State :=
  match s.cfl.state with
  | .waitDeselect => s
  | .idle => s
  | .command =>
    if s.cfl.bitCount = 7 then
      { s with cfl := { s.cfl.nextByte .parameters with code := LinkCommand.ofCode (shiftIn s.cfl.shifter ldi), params := [] } }
    else { s with cfl := s.cfl.sample ldi }
  | .parameters =>
    if s.cfl.bitCount = 7 then
      { s with cfl := { s.cfl.nextByte .parameters with params := s.cfl.params ++ [shiftIn s.cfl.shifter ldi] } }
    else { s with cfl := s.cfl.sample ldi }
  | .result =>
    if s.cfl.bitCount = 7 then
      { s with cfl := { s.cfl.nextByte (if s.cfl.out.tail = [] then .trailer else .response) with out := s.cfl.out.tail } }
    else { s with cfl := { s.cfl.nextBit with out := s.cfl.out.tail } }
  | .response =>
    if lastResponseBit s.cfl then endResponse s
    else if s.cfl.bitCount = 7 then { s with cfl := { s.cfl.nextByte .response with out := s.cfl.out.tail } }
    else { s with cfl := { s.cfl.nextBit with out := s.cfl.out.tail } }
  | .trailer => if s.cfl.bitCount = 7 then { s with cfl := s.cfl.nextByte .trailer } else { s with cfl := s.cfl.nextBit }

/-- A rising edge of LCLK with LDI at a level (R152, R154). -/
def risingEdge (ldi : Bool) (s : State) : State :=
  let s1 := driveRising s ldi
  match applyPoint s.cfl ldi with
  | some (some k, params) => applyCommand k params s1
  | some (none, _) => applyUnknown s1
  | none => shiftEdge ldi s1

/-- LDO after a falling edge: the next bit to be shifted out, 0 where zeros are driven, nothing where LDO is not driven (R152). -/
def ldoAfterFall (c : Cfl) : Option Bool :=
  match c.state with
  | .waitDeselect => none
  | .idle => none
  | .command => some false
  | .parameters => some false
  | .result => some (c.out.headD false)
  | .response => some (c.out.headD false)
  | .trailer => some false

/-- A falling edge of LCLK (R152). -/
def fallingEdge (s : State) : State :=
  { s with inp := { s.inp with lclk := false }, cfl := { s.cfl with ldo := ldoAfterFall s.cfl } }

/-- LCLK_RISING_EDGE (R152). -/
def execLclkRisingEdge (ldi : Bool) (s : State) : Host.Outcome State Fault Refusal :=
  if s.inp.rstn then .next (risingEdge ldi (takeDue s)) else .next (driveRising s ldi)

/-- LCLK_FALLING_EDGE (R152). -/
def execLclkFallingEdge (s : State) : Host.Outcome State Fault Refusal :=
  if s.inp.rstn then .next (fallingEdge (takeDue s)) else .next { s with inp := { s.inp with lclk := false } }

/-- READ_FAULT_COMPLETION (R177): the edge at which the master samples the last bit of the tenth response byte of a READ_FAULT. -/
def execReadFaultCompletion (s : State) : Host.Outcome State Fault Refusal :=
  .next (running (fun u =>
    match u.cfl.report with
    | .plain => u
    | .fault _ => if lastResponseBit u.cfl then risingEdge u.inp.ldi u else u) s)

/-! ## Commands by name -/

/-- The rising edge that is the apply point of the named command; any other edge is not this row's (log entries 3 and 13). -/
def applyRow (k : LinkCommand) (ldi : Bool) (s : State) : Host.Outcome State Fault Refusal :=
  .next (running (fun u =>
    match applyPoint u.cfl ldi with
    | some (some k', params) => if k' = k then applyCommand k params (driveRising u ldi) else u
    | some (none, _) => u
    | none => u) s)

/-- UNKNOWN_COMMAND (R153). -/
def execUnknownCommand (ldi : Bool) (s : State) : Host.Outcome State Fault Refusal :=
  .next (running (fun u =>
    match applyPoint u.cfl ldi with
    | some (none, _) => applyUnknown (driveRising u ldi)
    | some (some _, _) => u
    | none => u) s)

/-- READ_STATUS (R160): code 0x01, whose last bit is 1. -/
def execReadStatus (s : State) : Host.Outcome State Fault Refusal := applyRow .readStatus true s

/-- READ_FAULT (R161): code 0x02, whose last bit is 0. -/
def execReadFault (s : State) : Host.Outcome State Fault Refusal := applyRow .readFault false s

/-- READ_REGION (R29, R162). -/
def execReadRegion (ldi : Bool) (s : State) : Host.Outcome State Fault Refusal := applyRow .readRegion ldi s

/-- SET_WINDOW (R163). -/
def execSetWindow (ldi : Bool) (s : State) : Host.Outcome State Fault Refusal := applyRow .setWindow ldi s

/-- SET_SURFACE (R1). -/
def execSetSurface (ldi : Bool) (s : State) : Host.Outcome State Fault Refusal := applyRow .setSurface ldi s

/-- SET_MODE (R17). -/
def execSetMode (ldi : Bool) (s : State) : Host.Outcome State Fault Refusal := applyRow .setMode ldi s

/-- SET_BAND (R19). -/
def execSetBand (ldi : Bool) (s : State) : Host.Outcome State Fault Refusal := applyRow .setBand ldi s

/-- SET_SCROLL (R46). -/
def execSetScroll (ldi : Bool) (s : State) : Host.Outcome State Fault Refusal := applyRow .setScroll ldi s

/-- SET_CURSOR_WINDOW (R74). -/
def execSetCursorWindow (ldi : Bool) (s : State) : Host.Outcome State Fault Refusal := applyRow .setCursorWindow ldi s

/-- SET_CURSOR (R75). -/
def execSetCursor (ldi : Bool) (s : State) : Host.Outcome State Fault Refusal := applyRow .setCursor ldi s

/-- REVISIT_BEGIN (R76). -/
def execRevisitBegin (ldi : Bool) (s : State) : Host.Outcome State Fault Refusal := applyRow .revisitBegin ldi s

/-- REVISIT_END (R77). -/
def execRevisitEnd (ldi : Bool) (s : State) : Host.Outcome State Fault Refusal := applyRow .revisitEnd ldi s

/-- ENABLE (R24). -/
def execEnable (ldi : Bool) (s : State) : Host.Outcome State Fault Refusal := applyRow .enable ldi s

/-- DISABLE (R27). -/
def execDisable (ldi : Bool) (s : State) : Host.Outcome State Fault Refusal := applyRow .disable ldi s

/-- FLUSH (R168): code 0x40, whose last bit is 0. -/
def execFlush (s : State) : Host.Outcome State Fault Refusal := applyRow .flush false s

/-- FLUSH_DONE (R168). -/
def execFlushDone (s : State) : Host.Outcome State Fault Refusal :=
  if s.inp.rstn ∧ flushDoneDue s then .next (setFlushDone s) else .next (running id s)

/-- SET_TIMING (R166). -/
def execSetTiming (ldi : Bool) (s : State) : Host.Outcome State Fault Refusal := applyRow .setTiming ldi s

/-- SET_MEMORY (R167). -/
def execSetMemory (ldi : Bool) (s : State) : Host.Outcome State Fault Refusal := applyRow .setMemory ldi s

/-- RESTART (R169): code 0x4F, whose last bit is 1. The end of RESTART, when its conditions hold at once, is due after it. -/
def execRestart (s : State) : Host.Outcome State Fault Refusal := applyRow .restart true s

/-- RESTART_END (R170). -/
def execRestartEnd (s : State) : Host.Outcome State Fault Refusal :=
  if s.inp.rstn ∧ restartEndDue s then .next (endRestart s) else .next (running id s)

end Sys2Proof.Machine
end

