-- ==== Sys2Proof/Machine/Clock.lean ====
section
/-! DEFINITION. One CLK period with no command waiting: what the part does of its own when nothing is put before it. The table has
no row for a CLK period, so it is what an idle step does (log entry 4). -/

namespace Sys2Proof.Machine

/-- The entry's idle timer runs out in this CLK period (R93, R94). -/
def Entry.expires (e : Entry) : Bool :=
  match e.state with
  | .opened (.count n) => decide (n ≤ 1)
  | .opened .atAnswer => false
  | .closed => false
  | .active _ => false

/-- The entry's idle timer counts down by one (R93). -/
def Entry.countDown (e : Entry) : Entry :=
  match e.state with
  | .opened (.count n) => { e with state := .opened (.count (n - 1)) }
  | .opened .atAnswer => e
  | .closed => e
  | .active _ => e

/-- The idle timer of one entry counts down (R93). -/
def countDownEntry (s : State) (i : Fin 8) : State := { s with mb := s.mb.set i ((s.mb[i]).map Entry.countDown) }

/-- Every idle timer counts down by one, and the entries whose timers run out close, oldest first (R93, R94). -/
def tickIdleTimers (s : State) : State :=
  closeEntries (allEight.foldl countDownEntry s) (entriesWhere s Entry.expires)

/-- The ready timer counts down by one, and its running out is a first or a second expiry (R119 to R121). -/
def tickReadyTimer (s : State) : State :=
  match s.msq.timer with
  | none => s
  | some n =>
    if 1 < n then { s with msq := { s.msq with timer := some (n - 1) } }
    else
      match s.msq.state with
      | .reading => readyTimeoutEvent s
      | .writing => readyTimeoutEvent s
      | .recover => secondExpiryEvent s
      | .idle => s
      | .stuck => s
      | .held => s

/-- The MSQ acts on what it finds: in IDLE it begins the head item, or enters RECOVER when MRDY is high; in STUCK it leaves when MRDY
is low, or drops the head item (R114, R122 to R124). -/
def sequencerActs (s : State) : State :=
  match s.msq.state with
  | .idle => if s.inp.mrdy then unsolicitedReadyEvent s else beginItemEvent s
  | .stuck => if s.inp.mrdy then stuckDropEvent s else stuckEndEvent s
  | .reading => s
  | .writing => s
  | .recover => s
  | .held => s

/-- The HPC in IDLE takes a request that stands at its pins, after what the MSQ's turn has made possible (R48, R65, log entry 2).
That a request held across RSTN is seen only here or at a HOST_REQUEST is a DESIGN CHOICE (log entry 28). -/
def hostActs (s : State) : State := if s.inp.hreq ∧ s.hpc.state = .idle then seeRequest (takeDue s) else s

/-- The MSQ in this CLK period: an armed ready timer counts, and otherwise the MSQ acts (R119, R114). -/
def tickSequencer (s : State) : State := if s.msq.timer.isSome then tickReadyTimer s else sequencerActs s

/-- One CLK period: the HDONE of the period before ends, what is due is done, the timers count, and the sequencer and the host port act
(log entry 4). An answer that falls due here has HDONE high until the next CLK period (R48, log entry 6). -/
def clockTick (s : State) : State :=
  if s.inp.rstn then hostActs (tickSequencer (tickIdleTimers (takeDue (endAnswer s)))) else s

end Sys2Proof.Machine
end

