-- ==== Sys2Proof/Machine/Dispatch.lean ====
section
/-! DEFINITION. The meaning of each command: one arm a row of spec/opcode_table.json. -/

namespace Sys2Proof.Machine

def exec (i : Instr) (s : State) : Host.Outcome State Fault Refusal :=
  match i with
  | .hostRequest write address lanes data => Sys2Proof.Machine.execHostRequest write address lanes data s
  | .readAnswer => Sys2Proof.Machine.execReadAnswer s
  | .hreqLow => Sys2Proof.Machine.execHreqLow s
  | .waitingPlacementTaken => Sys2Proof.Machine.execWaitingPlacementTaken s
  | .idleExpiry entry => Sys2Proof.Machine.execIdleExpiry entry s
  | .beginItem => Sys2Proof.Machine.execBeginItem s
  | .strobeWriteComplete => Sys2Proof.Machine.execStrobeWriteComplete s
  | .rmwReadComplete md => Sys2Proof.Machine.execRmwReadComplete md s
  | .rmwWriteComplete => Sys2Proof.Machine.execRmwWriteComplete s
  | .readComplete md => Sys2Proof.Machine.execReadComplete md s
  | .mrdyRelease => Sys2Proof.Machine.execMrdyRelease s
  | .readyTimeout => Sys2Proof.Machine.execReadyTimeout s
  | .secondExpiry => Sys2Proof.Machine.execSecondExpiry s
  | .recoverEnd => Sys2Proof.Machine.execRecoverEnd s
  | .unsolicitedReady => Sys2Proof.Machine.execUnsolicitedReady s
  | .stuckDrop => Sys2Proof.Machine.execStuckDrop s
  | .stuckEnd => Sys2Proof.Machine.execStuckEnd s
  | .holdRequest => Sys2Proof.Machine.execHoldRequest s
  | .holdGrant => Sys2Proof.Machine.execHoldGrant s
  | .holdWithdraw => Sys2Proof.Machine.execHoldWithdraw s
  | .holdRelease mrdy => Sys2Proof.Machine.execHoldRelease mrdy s
  | .rstnAssert => Sys2Proof.Machine.execRstnAssert s
  | .rstnRelease mrdy => Sys2Proof.Machine.execRstnRelease mrdy s
  | .frameStart => Sys2Proof.Machine.execFrameStart s
  | .frameEnd => Sys2Proof.Machine.execFrameEnd s
  | .unknownCommand ldi => Sys2Proof.Machine.execUnknownCommand ldi s
  | .readStatus => Sys2Proof.Machine.execReadStatus s
  | .readFault => Sys2Proof.Machine.execReadFault s
  | .readFaultCompletion => Sys2Proof.Machine.execReadFaultCompletion s
  | .readRegion ldi => Sys2Proof.Machine.execReadRegion ldi s
  | .setWindow ldi => Sys2Proof.Machine.execSetWindow ldi s
  | .setSurface ldi => Sys2Proof.Machine.execSetSurface ldi s
  | .setMode ldi => Sys2Proof.Machine.execSetMode ldi s
  | .setBand ldi => Sys2Proof.Machine.execSetBand ldi s
  | .setScroll ldi => Sys2Proof.Machine.execSetScroll ldi s
  | .setCursorWindow ldi => Sys2Proof.Machine.execSetCursorWindow ldi s
  | .setCursor ldi => Sys2Proof.Machine.execSetCursor ldi s
  | .revisitBegin ldi => Sys2Proof.Machine.execRevisitBegin ldi s
  | .revisitEnd ldi => Sys2Proof.Machine.execRevisitEnd ldi s
  | .enable ldi => Sys2Proof.Machine.execEnable ldi s
  | .disable ldi => Sys2Proof.Machine.execDisable ldi s
  | .flush => Sys2Proof.Machine.execFlush s
  | .flushDone => Sys2Proof.Machine.execFlushDone s
  | .setTiming ldi => Sys2Proof.Machine.execSetTiming ldi s
  | .setMemory ldi => Sys2Proof.Machine.execSetMemory ldi s
  | .restart => Sys2Proof.Machine.execRestart s
  | .restartEnd => Sys2Proof.Machine.execRestartEnd s
  | .lclkRisingEdge ldi => Sys2Proof.Machine.execLclkRisingEdge ldi s
  | .lclkFallingEdge => Sys2Proof.Machine.execLclkFallingEdge s
  | .mholdDuringReset level => Sys2Proof.Machine.execMholdDuringReset level s

end Sys2Proof.Machine
end

