-- ==== Sys2Proof/Safety.lean ====
section
/-! DEFINITION. What the spec says holds of the ZT2408 at every moment, as decidable predicates of the state. The claims say that every
step keeps them. -/

namespace Sys2Proof.Machine

/-! ## Region table and settings -/

/-- Every field lies in its range of R15. -/
abbrev Region.inRange (r : Region) : Prop :=
  (r.windowBase ≤ 16777212 ∧ r.windowBase % 4 = 0 ∧ r.windowLength ≤ 4194304)
    ∧ (r.base ≤ 1048575 ∧ 1 ≤ r.pitch ∧ r.pitch ≤ 4096 ∧ 1 ≤ r.width ∧ r.width ≤ 4096 ∧ 1 ≤ r.height ∧ r.height ≤ 4096)
    ∧ (r.bandTop ≤ 4095 ∧ r.bandRows ≠ 1 ∧ r.bandRows ≤ 4096 ∧ r.scroll ≤ 4095)
    ∧ (r.x0 ≤ r.x1 ∧ r.x1 ≤ 4095 ∧ r.y0 ≤ r.y1 ∧ r.y1 ≤ 4095)

/-- The cursor and the mark lie in the cursor window; a mark is held exactly in revisit mode, and revisit mode is on only in an ENABLED
STREAM region (R15, R18, R21, R67). -/
abbrev Region.cursorOk (r : Region) : Prop :=
  r.inCursorWindow r.cursor = true ∧ (∀ m ∈ r.mark, r.inCursorWindow m = true)
    ∧ (r.revisit = r.mark.isSome) ∧ (r.revisit = true → r.enabled = true ∧ r.kind = .stream)

/-- Every record is in range, its cursor fields agree, and an ENABLED one passes the ENABLE checks (R15, R21, R26, R67). -/
abbrev TableOk (s : State) : Prop :=
  ∀ n : Fin 8, (s.rt[n]).inRange ∧ (s.rt[n]).cursorOk
    ∧ ((s.rt[n]).enabled = true → (s.rt[n]).enableChecks (memoryWords s.cmu.settings.memorySize) = true)

/-- Every setting lies in its range (R164). -/
abbrev SettingsOk (s : State) : Prop :=
  (1 ≤ s.cmu.settings.memorySize ∧ s.cmu.settings.memorySize ≤ 16) ∧ s.cmu.settings.idleDelay ≤ 255
    ∧ (16 ≤ s.cmu.settings.readyTimeout ∧ s.cmu.settings.readyTimeout ≤ 4095)

/-! ## Fault log and host lines -/

/-- At most four records, and the overflow flag is set only over a log that is not empty (R176, R177). -/
abbrev LogOk (s : State) : Prop := s.flog.records.length ≤ Config.logCapacity ∧ (s.flog.overflow = true → s.flog.records ≠ [])

/-- The record that a fault report names is still at the head of the log (R161, R177). -/
def reportOk (s : State) : Bool :=
  match s.cfl.report with
  | .fault (some r) => decide (s.flog.records.head? = some r)
  | .fault none => true
  | .plain => true

/-- HERR is low and HRD 0 whenever HDONE is low, and HRD is 0 in an error response (R48). -/
abbrev HostLinesOk (s : State) : Prop :=
  (s.hpc.hdone = false → s.hpc.herr = false ∧ s.hpc.hrd = 0) ∧ (s.hpc.herr = true → s.hpc.hrd = 0)

/-! ## The memory port -/

/-- While RSTN is asserted every block is at its reset values (R106, R112, R126, R150, R159). -/
abbrev ResetHolds (s : State) : Prop := s.inp.rstn = false → s = assertReset s

/-- The hold state is GRANTED. -/
def Hld.isGranted (h : Hld) : Bool :=
  match h.state with
  | .granted _ => true
  | .none => false
  | .pending _ => false

/-- The port is granted exactly while the MSQ is HELD, and the outputs are floated exactly then (R145, R125). -/
abbrev PortOk (s : State) : Prop :=
  s.inp.rstn = true → (s.hld.isGranted = decide (s.msq.state = .held)) ∧ (decide (s.msq.port = .floated) = decide (s.msq.state = .held))

/-! ## Merge buffer -/

/-- At most one OPEN entry holds any given word (R84). -/
abbrev OneOpenPerWord (s : State) : Prop :=
  ∀ i j : Fin 8, ∀ e ∈ s.mb[i], ∀ f ∈ s.mb[j], e.isOpen = true → f.isOpen = true → e.word = f.word → i = j

/-! ## Memory queue, sequencer, gather and latch together -/

/-- The entry waits in the queue: it is CLOSED or ACTIVE (R108). -/
def waitsInQueue (x : Option Entry) : Bool :=
  match x with
  | some e => !e.isOpen
  | none => false

/-- Each CLOSED or ACTIVE entry is in the queue exactly once, and no other (R108). -/
abbrev EntriesQueued (s : State) : Prop := ∀ i : Fin 8, s.mq.count (.entry i) = (waitsInQueue s.mb[i]).toNat

/-- The item is a gather READ with this index. -/
def Item.isGatherAt (index : Nat) : Item → Bool
  | .gather _ i _ => decide (i = index)
  | .entry _ => false
  | .prefetch _ _ => false

/-- The item is a prefetch READ. -/
def Item.isPrefetch : Item → Bool
  | .prefetch _ _ => true
  | .entry _ => false
  | .gather _ _ _ => false

/-- The word slot of this index is QUEUED. -/
def queuedAt (s : State) (index : Nat) : Bool :=
  match s.rg with
  | some g =>
    match g.words[index]? with
    | some x => x.isQueued
    | none => false
  | none => false

/-- A gather READ item names a QUEUED word slot of its word, at an index below 4. -/
def gatherItemOk (s : State) : Item → Bool
  | .gather w index _ =>
    decide (index < 4) &&
      match s.rg with
      | some g => decide (g.words[index]? = some ⟨w, .queued⟩)
      | none => false
  | .entry _ => true
  | .prefetch _ _ => true

/-- The gather READ items are those of the QUEUED words, one each, and at most four words are gathered (R108, R127, R129). -/
abbrev GatherQueued (s : State) : Prop :=
  (∀ x ∈ s.mq, gatherItemOk s x = true) ∧ (∀ k : Fin 4, s.mq.countP (Item.isGatherAt k.val) = (queuedAt s k.val).toNat)
    ∧ (∀ g ∈ s.rg, g.words.length ≤ 4) ∧ (s.rg.isSome = decide (s.hpc.state = .gathering))

/-- A prefetch READ item is for the marker's word. -/
def prefetchItemOk (s : State) : Item → Bool
  | .prefetch w _ =>
    match s.ral.prefetch with
    | some p => decide (p.word = w)
    | none => false
  | .entry _ => true
  | .gather _ _ _ => true

/-- A prefetch READ item is in the queue exactly while a marker is pending, and it is for the marker's word (R108, R133). -/
abbrev PrefetchQueued (s : State) : Prop :=
  (∀ x ∈ s.mq, prefetchItemOk s x = true) ∧ s.mq.countP Item.isPrefetch = s.ral.prefetch.isSome.toNat

/-- The entry is ACTIVE. -/
def isActive (x : Option Entry) : Bool :=
  match x with
  | some e => !e.isOpen && decide (e.state ≠ .closed)
  | none => false

/-- No entry is ACTIVE. -/
abbrev NoneActive (s : State) : Prop := ∀ i : Fin 8, isActive s.mb[i] = false

/-- The head item is this operation's, it names an entry in this phase, and no other entry is ACTIVE (R114). -/
def activeAs (s : State) (o : Operation) (p : Phase) : Bool :=
  match o.item with
  | .entry i =>
    decide (s.mq.head? = some (.entry i)) &&
      (match s.mb[i] with
        | some e => decide (e.state = .active p) && decide (e.word = o.word)
        | none => false)
      && decide (∀ j : Fin 8, j ≠ i → isActive s.mb[j] = false)
  | .gather _ _ _ => false
  | .prefetch _ _ => false

/-- The head item is this READ operation's, and no entry is ACTIVE. -/
def readingHead (s : State) (o : Operation) : Bool :=
  decide (s.mq.head? = some o.item) && decide (NoneActive s) &&
    match o.item with
    | .entry _ => false
    | .gather w _ _ => decide (w = o.word)
    | .prefetch w _ => decide (w = o.word)

/-- The operation in flight belongs to the head item until it completes, and the ACTIVE entry is the head item's (R113, R114, R117). -/
def operationOk (s : State) (o : Operation) : Bool :=
  match s.msq.state, o.kind, o.step with
  | .writing, .strobeWrite, .ready => activeAs s o .strobeWrite
  | .writing, .strobeWrite, .release => decide (NoneActive s)
  | .reading, .rmw none, .ready => activeAs s o .rmwRead
  | .reading, .rmw (some _), .release => activeAs s o .rmwWrite
  | .writing, .rmw (some _), .ready => activeAs s o .rmwWrite
  | .writing, .rmw (some _), .release => decide (NoneActive s)
  | .reading, .read, .ready => readingHead s o
  | .reading, .read, .release => decide (NoneActive s)
  | _, _, _ => false

/-- The MSQ has an operation exactly in READING and WRITING, it is the head item's until it completes, and MCS is high exactly in a
ready step (R113 to R118). -/
def sequencerOk (s : State) : Bool :=
  match s.msq.op with
  | some o => operationOk s o && (s.mcs == decide (o.step = .ready))
  | none =>
    decide (s.msq.state ≠ .reading) && decide (s.msq.state ≠ .writing) && decide (NoneActive s) && !s.mcs

/-- The timer is armed exactly in READING, WRITING and RECOVER (R119). -/
abbrev TimerOk (s : State) : Prop :=
  s.msq.timer.isSome = (decide (s.msq.state = .reading) || decide (s.msq.state = .writing) || decide (s.msq.state = .recover))

/-- The entry's item stands ahead of every prefetch item. -/
def aheadOfPrefetch (q : List Item) (i : Fin 8) : Bool := (q.takeWhile fun x => !x.isPrefetch).contains (.entry i)

/-- While the latch is valid no prefetch is pending and no entry outside FREE holds its word (R133). -/
abbrev LatchOk (s : State) : Prop :=
  ∀ l ∈ s.ral.latch, s.ral.prefetch = none ∧ ∀ i : Fin 8, ∀ e ∈ s.mb[i], e.word ≠ l.word

/-- While a prefetch not dropped is pending, no entry is OPEN for its word, and the others holding it are ahead of its item (R133, R136). -/
abbrev PrefetchOk (s : State) : Prop :=
  ∀ p ∈ s.ral.prefetch, p.dropped = false →
    ∀ i : Fin 8, ∀ e ∈ s.mb[i], e.word = p.word → e.isOpen = false ∧ aheadOfPrefetch s.mq i = true

/-- A mark counts no more items than the queue holds (R111). -/
abbrev MarksOk (s : State) : Prop :=
  (∀ m ∈ s.cmu.flushMark, m ≤ s.mq.length) ∧ (∀ m ∈ s.hld.drainMark, m ≤ s.mq.length)

/-- The queue, the entries, the sequencer, the gather record and the latch agree. -/
abbrev QueueOk (s : State) : Prop :=
  OneOpenPerWord s ∧ EntriesQueued s ∧ GatherQueued s ∧ PrefetchQueued s ∧ sequencerOk s = true ∧ LatchOk s ∧ PrefetchOk s ∧ MarksOk s

/-! ## Words of the claims -/

/-- The part runs and nothing that belongs to an earlier event is still to be done (log entry 2). -/
abbrev Quiet (s : State) : Prop := s.inp.rstn = true ∧ settled s = true

/-- The next rising edge of LCLK, with this LDI bit, is the apply point of this command with these parameter bytes (R154). -/
abbrev AtApply (s : State) (k : LinkCommand) (params : List Byte) (ldi : Bool) : Prop :=
  applyPoint s.cfl ldi = some (some k, params)

/-- No OPEN entry holds the word (R84). -/
abbrev NotOpenFor (s : State) (w : Nat) : Prop := ∀ i : Fin 8, ∀ e ∈ s.mb[i], e.isOpen = true → e.word ≠ w

/-- The entry is the lowest-numbered FREE one (R89). -/
abbrev LowestFreeIs (s : State) (i : Fin 8) : Prop := s.mb[i] = none ∧ ∀ k : Fin 8, k < i → s.mb[k] ≠ none

/-- The region is the lowest-numbered ENABLED one whose window covers the address (R30). -/
abbrev LowestCovering (s : State) (address : Nat) (n : Fin 8) : Prop :=
  covers s address n = true ∧ ∀ m : Fin 8, m < n → covers s address m = false

/-- The HLD lets the MSQ begin or drop the head item (R114, R123). -/
abbrev HeadAllowed (s : State) : Prop :=
  s.hld.state = .none ∨ (s.hld.state = .pending .drainFirst ∧ 0 < s.hld.drainMark.getD 0)

/-- No entry waits for an answer with its timer AT_ANSWER (R94). -/
abbrev NoneAtAnswer (s : State) : Prop := ∀ i : Fin 8, ∀ e ∈ s.mb[i], e.isAtAnswer = false

/-- The entry is OPEN with its timer counting (R93). -/
def Entry.isCounting (e : Entry) : Bool :=
  match e.state with
  | .opened (.count _) => true
  | .opened .atAnswer => false
  | .closed => false
  | .active _ => false

/-- No idle timer counts (R93). -/
abbrev NoneCounting (s : State) : Prop := ∀ i : Fin 8, ∀ e ∈ s.mb[i], e.isCounting = false

/-- A mark after the removal of the head item: every mark that counts more than 0 is lowered by one (R111). -/
abbrev lowered (m : Option Nat) : Option Nat := m.map fun n => n - 1

/-- The RAL after a placement of a pixel of the word has been reported to it (R138). -/
def ralReported (r : Ral) (w : Nat) : Ral where
  latch := if r.latch.map Latch.word = some w then none else r.latch
  prefetch := r.prefetch.map fun p => if p.word = w then ⟨w, true⟩ else p

/-- The FLOG after a detected fault: at most four records are kept, and one that finds four sets the overflow flag (R176). -/
def logged (f : Flog) (r : FaultRecord) : Flog := if f.records.length < 4 then ⟨f.records ++ [r], f.overflow⟩ else ⟨f.records, true⟩

/-- Every entry of `s` that satisfies a test is CLOSED in `t`, and their items joined the tail of the queue in opened order, oldest first;
every other entry is kept (R92). -/
def ClosedWhere (test : Entry → Bool) (s t : State) : Prop :=
  (∀ i : Fin 8, t.mb[i] = (s.mb[i]).map fun e => if test e then { e with state := .closed } else e)
    ∧ ∃ l : List (Fin 8), t.mq = s.mq ++ l.map Item.entry ∧ l.Nodup
        ∧ (∀ i : Fin 8, i ∈ l ↔ (s.mb[i]).any test = true)
        ∧ l.Pairwise fun i j => orderOf s i ≤ orderOf s j

/-- Every OPEN entry of `s` is closed in `t`. -/
abbrev ClosedAll (s t : State) : Prop := ClosedWhere Entry.isOpen s t

/-- How a claimed access goes to work on a pixel list that is not empty, from its claim in this state of the HPC: a write begins to place
its pixels, a read gathers them, and a read that the latch serves whole is answered as READ_ANSWER answers it (R60, R62, R128, R131). That a write hands its pixels on in one
event until one waits is the model's choice (log entry 27). -/
def GoesToWork (out : Host.Outcome State Fault Refusal) (claimed : HpcState → State) (a : AccessRecord) (origin : Origin) (f : Format) :
    Prop :=
  let words : List Nat := a.list.filterMap fun x =>
    match x with
    | .pixel p => some p.word
    | .tail _ => none
  let served : Prop := ∀ w ∈ words, (claimed .gathering).ral.latch.map Latch.word = some w
  let gathered : State := planRead (claimed .gathering) origin f a.list
  (a.direction = .write → out = .next (continueWrite (claimed .placing) a))
    ∧ (a.direction = .read → ¬ served → out = .next gathered)
    ∧ (a.direction = .read → served → out = exec .readAnswer gathered)

/-- The entry with its idle timer one CLK period on (R93). -/
def Entry.onePeriodOn (e : Entry) : Entry :=
  match e.state with
  | .opened (.count n) => { e with state := .opened (.count (n - 1)) }
  | .opened .atAnswer => e
  | .closed => e
  | .active _ => e

/-- The entry's idle timer has counted down to 0 (R94). -/
def Entry.hasRunOut (e : Entry) : Bool := decide (e.state = .opened (.count 0))

/-- The row that the MSQ's turn in a CLK period is: the running out of an armed ready timer, and with none armed the begin of the head item, the
unsolicited ready, the drop or the end of STUCK, by MRDY (R114, R119 to R124); none while the timer counts on and in HELD (R125). -/
def sequencerRow (s : State) : Option Instr :=
  match s.msq.timer with
  | some n =>
    if 1 < n then none else if s.msq.state = .recover then some .secondExpiry else some .readyTimeout
  | none =>
    match s.msq.state with
    | .idle => some (if s.inp.mrdy then .unsolicitedReady else .beginItem)
    | .stuck => some (if s.inp.mrdy then .stuckDrop else .stuckEnd)
    | .reading => none
    | .writing => none
    | .recover => none
    | .held => none

/-- The link after an apply point with this LDI bit: RESULT, with the result byte and the response to be shifted out and the staging
record empty (R151 to R156). -/
def linkResult (s : State) (ldi : Bool) (r : ResultCode) (response : List Byte) (report : Report) : State :=
  { s with
    inp := { s.inp with lclk := true, ldi := ldi }
    cfl := ⟨.result, s.cfl.byteCount + 1, 0, 0, none, [], bitsOf r.code ++ response.flatMap bitsOf, report, s.cfl.ldo⟩ }

/-- The state after the apply point of a command without a response: its result is the last result (R155). -/
def commandDone (s : State) (ldi : Bool) (r : ResultCode) : State :=
  linkResult { s with cmu := { s.cmu with lastResult := r } } ldi r [] .plain

/-- One region record is written, and nothing else, by a command whose result is OK (R16, R23). -/
def regionWritten (s : State) (ldi : Bool) (n : Fin 8) (r : Region) : State := commandDone { s with rt := s.rt.set n r } ldi .ok

/-- The commands are executed one after another. -/
def execAll (s : State) : List Instr → Host.Outcome State Fault Refusal
  | [] => .next s
  | c :: l =>
    match exec c s with
    | .next t => execAll t l
    | .fault r => .fault r
    | .refused r => .refused r

/-- The edges that a link master makes to send these bits: a rising edge with each bit, and a falling edge between two of them. -/
def bitEdges : List Bool → List Instr
  | [] => []
  | [b] => [.lclkRisingEdge b]
  | b :: c :: l => .lclkRisingEdge b :: .lclkFallingEdge :: bitEdges (c :: l)

end Sys2Proof.Machine
end

