-- ==== Sys2Proof/Certificates/Slice0/Obligations.lean ====
section
/-! DEFINITION. The statements for the provers, from the numbered rules of spec/. `Quiet s` says that the part runs and nothing that
belongs to an earlier event is still to be done; by `Obligations.DueWorkIsDoneFirst` every command that is not itself such due work
acts on a quiet state. -/

open Sys2Proof Sys2Proof.Machine

/-! ## The machine as a whole -/

/-- A step runs the command at the front of the queue, with the queue's rest. -/
def Obligations.StepTakesTheFrontCommand : Prop :=
  ∀ (s : State) (c : Instr) (rest : List Instr), s.pending = c :: rest → step s = exec c { s with pending := rest }

/-- No command stops the block with a fault or a refusal, and none touches the queue of waiting commands. -/
def Obligations.NoCommandStopsTheBlock : Prop :=
  ∀ (c : Instr) (s : State), ∃ t, exec c s = .next t ∧ t.pending = s.pending

/-- What is due is done in one pass, and every command but the five that are due work themselves does it before its own effect. HREQ_LOW ends
an earlier answer before it, so that an answer that falls due in it has HDONE high after it, and HOST_REQUEST outside IDLE changes only the lines
after it. What the pass does is what the five rows do one after another. This way of ordering the events, and when HDONE ends, is the
model's choice (log entries 2, 6 and 26). -/
def Obligations.DueWorkIsDoneFirst : Prop :=
  ∀ s : State, settled (takeDue s) = true ∧ (settled s = true → takeDue s = s)
    ∧ (s.inp.rstn = true →
        execAll s [.waitingPlacementTaken, .readAnswer, .flushDone, .holdGrant, .restartEnd] = .next (takeDue s))
    ∧ (∀ c : Instr, s.inp.rstn = true → c ≠ .readAnswer → c ≠ .waitingPlacementTaken → c ≠ .flushDone → c ≠ .holdGrant →
        c ≠ .restartEnd → c ≠ .hreqLow → (s.hpc.state = .idle ∨ ∀ w a l d, c ≠ .hostRequest w a l d) → exec c s = exec c (takeDue s))
    ∧ (s.inp.rstn = true →
        let u := takeDue { s with hpc := { s.hpc with hdone := false, herr := false, hrd := 0 } }
        let ends : Prop := u.hpc.state = .answered ∨ u.hpc.state = .deferred
        exec .hreqLow s = .next
          { u with
            inp := { u.inp with hreq := false }
            hpc := { u.hpc with state := if ends then .idle else u.hpc.state, access := if ends then none else u.hpc.access } })
    ∧ ∀ (w : Bool) (a : BitVec 22) (l : BitVec 4) (d : HostWord), s.inp.rstn = true → s.hpc.state ≠ .idle →
        exec (.hostRequest w a l d) s = .next
          { takeDue s with inp := { (takeDue s).inp with hreq := true, lines := ⟨w, a, l, d⟩ } }

/-- A CLK period in which no command waits, from a quiet state: an earlier answer ends; every counting idle timer counts down by one, in every state
of the bridge, and the entries whose timers run out close in opened order; then the ready timer counts, or the row of the MSQ's turn is taken; then a
request that stands at the pins, with the HPC in IDLE, is taken as HOST_REQUEST takes it. During a hold without a request that is the idle timers
alone (R48, R65, R93, R94, R114, R119 to R125). That such a period is a step on an empty queue, and the order of its events, is the model's choice
(log entry 4), as is that a request held across RSTN is seen in it (log entry 28). -/
def Obligations.ClkPeriodCountsAndActs : Prop :=
  (∀ s : State, Quiet s → TimerOk s → s.pending = [] →
    let counted : State :=
      { s with
        hpc := { s.hpc with hdone := false, herr := false, hrd := 0 }
        mb := s.mb.map fun x => x.map Entry.onePeriodOn }
    let l := s.inp.lines
    ∃ u v : State, u = { counted with mb := u.mb, mq := u.mq } ∧ ClosedWhere Entry.hasRunOut counted u ∧ Quiet u
      ∧ (∀ c ∈ sequencerRow s, exec c u = .next v)
      ∧ (sequencerRow s = none → v = { u with msq := { u.msq with timer := u.msq.timer.map fun n => n - 1 } })
      ∧ (s.inp.hreq = false ∨ s.hpc.state ≠ .idle → step s = .next v)
      ∧ (s.inp.hreq = true → s.hpc.state = .idle → step s = exec (.hostRequest l.hwr l.ha l.hlane l.hwd) v))
  ∧ ∀ (s : State) (i : Fin 8) (e : Entry) (n : Nat), Quiet s → s.pending = [] → s.msq.state = .held → s.inp.hreq = false →
    s.mb[i] = some e → e.state = .opened (.count n) →
    ∃ t, step s = .next t
      ∧ t.mb[i] = some { e with state := if 1 < n then .opened (.count (n - 1)) else .closed }
      ∧ (n ≤ 1 → t.mq.count (.entry i) = s.mq.count (.entry i) + 1) ∧ (1 < n → t.mq.count (.entry i) = s.mq.count (.entry i))

/-! ## Reset -/

/-- RSTN asserted sets every block to its reset values; the pins keep their levels, MHLDA follows MHOLD and FLTN is high
(R15, R65, R106, R112, R126, R133, R150, R159, R164, R168, R171, R179). -/
def Obligations.RstnAssertResetsEveryBlock : Prop :=
  ∀ s : State, ∃ t, exec .rstnAssert s = .next t
    ∧ t.inp = { s.inp with rstn := false } ∧ t.pending = s.pending
    ∧ t.hpc = ⟨.idle, none, false, false, 0⟩
    ∧ (∀ n : Fin 8, t.rt[n] =
        { enabled := false, windowBase := 0, windowLength := 0, base := 0, pitch := 1, width := 1, height := 1, format := .p16,
          kind := .mapped, access := .rw, op := .replace, mirrorX := false, mirrorY := false, scan := .rowFirst,
          readAhead := false, bandTop := 0, bandRows := 0, scroll := 0, x0 := 0, x1 := 0, y0 := 0, y1 := 0,
          cursor := ⟨0, 0⟩, revisit := false, mark := none })
    ∧ (∀ i : Fin 8, t.mb[i] = none) ∧ t.mq = [] ∧ t.rg = none ∧ t.ral = ⟨none, none⟩
    ∧ t.msq.op = none ∧ t.msq.timer = none ∧ t.mcs = false ∧ (t.msq.port = .floated ↔ s.inp.mhold = true)
    ∧ t.hld.drainMark = none ∧ t.mhlda = s.inp.mhold
    ∧ t.cfl.state = .waitDeselect ∧ t.cfl.code = none ∧ t.cfl.params = [] ∧ t.cfl.ldo = none
    ∧ t.cmu.settings = ⟨16, true, .immediate, 4, 1024⟩ ∧ t.cmu.lastResult = .ok ∧ t.cmu.flushDone = true
    ∧ t.cmu.flushMark = none ∧ t.cmu.restarting = false
    ∧ t.flog = ⟨[], false⟩ ∧ t.fltn = true

/-- At the release of RSTN the HLD and the MSQ take GRANTED and HELD from a high MHOLD and NONE and IDLE from a low one, and the CFL
passes to IDLE at once when LSEL is high; nothing else but the two pin levels changes (R126, R150, R151). That an HREQ already high is not seen in this
event but in a later one is the model's choice (log entry 28). -/
def Obligations.RstnReleaseTakesTheHoldLine : Prop :=
  ∀ (s : State) (mrdy : Bool), s.inp.rstn = false →
    ∃ t, exec (.rstnRelease mrdy) s = .next t
      ∧ t = { s with inp := { s.inp with rstn := true, mrdy := mrdy }, hld := t.hld, msq := t.msq, cfl := t.cfl }
      ∧ (s.inp.mhold = true → t.hld = ⟨.granted .immediate, none⟩ ∧ t.msq.state = .held ∧ t.msq.port = .floated ∧ t.mhlda = true)
      ∧ (s.inp.mhold = false → t.hld = ⟨.none, none⟩ ∧ t.msq.state = .idle ∧ t.msq.port = .deselected ∧ t.mhlda = false)
      ∧ t.msq.op = none ∧ t.msq.timer = none
      ∧ t.cfl.state = (if s.inp.lsel then .idle else .waitDeselect)

/-- While RSTN is asserted nothing happens but what the pins do: no command but the release changes more than pin levels and, with
MHOLD, the memory outputs; MHLDA follows MHOLD, and the outputs are floated when it is high (R65, R150). -/
def Obligations.OnlyPinsMoveDuringReset : Prop :=
  ∀ (s : State), s.inp.rstn = false →
    (∀ level : Bool, exec (.mholdDuringReset level) s =
        .next { s with inp := { s.inp with mhold := level }, msq := { s.msq with port := if level then .floated else .deselected } })
    ∧ (∀ level : Bool, ∀ t, exec (.mholdDuringReset level) s = .next t → t.mhlda = level)
    ∧ ∀ (c : Instr), (∀ m : Bool, c ≠ .rstnRelease m) → (∀ l : Bool, c ≠ .mholdDuringReset l) → c ≠ .rstnAssert →
        ∃ t, exec c s = .next t
          ∧ t = { s with inp := t.inp } ∧ t.inp.rstn = false ∧ t.inp.mhold = s.inp.mhold ∧ t.inp.mrdy = s.inp.mrdy

/-! ## Invariants: from every state that has them, every step keeps them -/

/-- Every region record stays in the ranges of R15 with its cursor and mark in the cursor window, a mark is held exactly in revisit mode,
every ENABLED record passes the ENABLE checks, and every setting stays in range (R15, R18, R21, R26, R67, R164). -/
def Obligations.EveryStepKeepsTableAndSettings : Prop :=
  ∀ s : State, TableOk s → SettingsOk s → ∀ t, step s = .next t → TableOk t ∧ SettingsOk t

/-- The log keeps at most four records and an empty log has its overflow flag clear; HERR is low and HRD 0 whenever HDONE is low, and HRD
is 0 in an error response; the record that a fault report names stays at the head of the log until the READ_FAULT completes
(R48, R161, R176, R177). -/
def Obligations.EveryStepKeepsLogAndHostLines : Prop :=
  ∀ (s t : State), step s = .next t →
    (LogOk s → LogOk t) ∧ (HostLinesOk s → HostLinesOk t) ∧ (reportOk s = true → reportOk t = true)

/-- While RSTN stays asserted every block stays at its reset values; the port is granted exactly while the MSQ is HELD and the outputs are
floated exactly then, and the ready timer is armed exactly in READING, WRITING and RECOVER
(R106, R112, R119, R125, R126, R145, R150, R159). -/
def Obligations.EveryStepKeepsResetValuesAndPortOwner : Prop :=
  ∀ (s t : State), step s = .next t →
    (ResetHolds s → ResetHolds t) ∧ (PortOk s → PortOk t) ∧ (TimerOk s → TimerOk t)

/-- At most one OPEN entry holds any given word (R84). -/
def Obligations.EveryStepKeepsOneOpenEntryPerWord : Prop :=
  ∀ s : State, OneOpenPerWord s → ∀ t, step s = .next t → OneOpenPerWord t

/-- The queue holds each CLOSED or ACTIVE entry once and no other entry, the READ items of the gather's QUEUED words and of the pending
prefetch and no other; the ACTIVE entry is the head item's; while the latch is valid no entry holds its word and no prefetch is pending;
no mark counts more than the queue holds. The premises shut out only states that no run reaches: RSTN asserted with a block not at its reset
values, and a granted port with the MSQ not HELD, both kept by `EveryStepKeepsResetValuesAndPortOwner`
(R84, R108, R111, R114, R127, R129, R133). -/
def Obligations.EveryStepKeepsQueueAndLatch : Prop :=
  ∀ s : State, QueueOk s → ResetHolds s → PortOk s → ∀ t, step s = .next t → QueueOk t

/-- `State.reset` is the part after RSTN has been asserted and released with every other input line low and no command waiting, and it has
every invariant. The line levels and the empty queue of commands are the model's choice (log entry 7). -/
def Obligations.ResetStateMeetsTheInvariants : Prop :=
  (∀ (s : State) (b : Bool), s.inp = { Inputs.reset with rstn := b } → s.pending = [] →
      ∃ u, exec .rstnAssert s = .next u ∧ exec (.rstnRelease false) u = .next State.reset)
    ∧ ResetHolds State.reset ∧ TableOk State.reset ∧ SettingsOk State.reset ∧ LogOk State.reset ∧ HostLinesOk State.reset
    ∧ reportOk State.reset = true
    ∧ PortOk State.reset ∧ TimerOk State.reset ∧ QueueOk State.reset

/-- The memory queue never holds more than thirteen items (R108). -/
def Obligations.QueueHoldsAtMostThirteen : Prop :=
  ∀ s : State, QueueOk s → s.mq.length ≤ 13

/-! ## Pixels, words and surfaces -/

/-- The word formed by slots: each covered slot takes the value its raster operation gives, and each other slot keeps its old value (R9). -/
def Obligations.WordIsFormedSlotBySlot : Prop :=
  ∀ (f : Format) (op : RasterOp) (coverage : BitVec 16) (operand old : Word) (k : Nat), k < f.ppw →
    slotValue f (applyToWord f op coverage operand old) k =
      if coverage.getLsbD k then op.apply (slotValue f old k) (slotValue f operand k) else slotValue f old k

/-- A strobe write leaves the word that a read-modify-write would have formed: a strobed byte takes the operand's byte and any other byte
keeps what memory held (R5, R9, R102). A pass-through entry is always written with strobes (R11, R101). -/
def Obligations.StrobeWriteLeavesTheFormedWord : Prop :=
  (∀ (f : Format) (coverage : BitVec 16) (operand old : Word), byteAligned f coverage = true →
    applyToWord f .replace coverage operand old =
      ((if (strobeSet f coverage).getLsbD 1 then operand else old) &&& 0xFF00#16)
        ||| ((if (strobeSet f coverage).getLsbD 0 then operand else old) &&& 0x00FF#16))
    ∧ ∀ coverage : BitVec 16, phaseAtActive .p8 .replace coverage = .strobeWrite

/-- Two writes with one raster operation to one slot are one write with the combined operand, and so writing an entry into which a pixel was
merged does to the word what writing the entry before the merge and then the pixel alone would do (R8, R10, R86). -/
def Obligations.CombinedOperandStandsForTheSeries : Prop :=
  (∀ (op : RasterOp) (o v1 v2 : Word), op.apply (op.apply o v1) v2 = op.apply o (op.combine v1 v2))
    ∧ ∀ (f : Format) (op : RasterOp) (coverage : BitVec 16) (operand value old : Word) (k : Nat), k < f.ppw →
      (coverage.getLsbD k = false → slotValue f operand k = 0) →
      applyToWord f op (withCovered coverage k) (withSlot f operand k (op.combine (slotValue f operand k) value)) old =
        applyToWord f op (withCovered 0 k) (withSlot f 0 k value) (applyToWord f op coverage operand old)

/-- From the record of an ENABLED region, translation reaches only words of the surface, inside the memory, and slots of the format, and
two distinct positions never reach the same slot of one word (R44). -/
def Obligations.TranslationIsOneToOne : Prop :=
  ∀ (r : Region) (words : Nat) (p q : Position), r.enableChecks words = true →
    p.x < r.width → p.y < r.height → q.x < r.width → q.y < r.height →
    (r.base ≤ (r.translate p).word ∧ (r.translate p).word < r.base + r.height * r.pitch ∧ (r.translate p).word < words
      ∧ (r.translate p).slot < r.format.ppw)
    ∧ (r.translate p = r.translate q → p = q)

/-- The successor of a position of the cursor window lies in the window, and its number in scan order is one more, modulo the number of
positions (R68). -/
def Obligations.SuccessorIsTheNextNumber : Prop :=
  ∀ (r : Region) (p : Position), r.inCursorWindow p = true →
    r.inCursorWindow (r.successor p) = true
    ∧ (r.scan = .rowFirst →
        ((r.successor p).y - r.y0) * (r.x1 - r.x0 + 1) + ((r.successor p).x - r.x0) =
          ((p.y - r.y0) * (r.x1 - r.x0 + 1) + (p.x - r.x0) + 1) % ((r.x1 - r.x0 + 1) * (r.y1 - r.y0 + 1)))
    ∧ (r.scan = .columnFirst →
        ((r.successor p).x - r.x0) * (r.y1 - r.y0 + 1) + ((r.successor p).y - r.y0) =
          ((p.x - r.x0) * (r.y1 - r.y0 + 1) + (p.y - r.y0) + 1) % ((r.x1 - r.x0 + 1) * (r.y1 - r.y0 + 1)))

/-- An access is claimed by the lowest-numbered ENABLED region whose window covers it, otherwise by the pass-through aperture when that is
ENABLED and holds the whole host word, and otherwise by nobody (R30). -/
def Obligations.ClaimGoesToTheLowestRegionThenPass : Prop :=
  ∀ (s : State) (a : Nat),
    let covering (n : Fin 8) : Prop :=
      (s.rt[n]).enabled = true ∧ (s.rt[n]).windowBase ≤ a ∧ a < (s.rt[n]).windowBase + 4 * (s.rt[n]).windowLength
    let aperture : Prop := s.cmu.settings.passThrough = true ∧ a + 3 < 2 * (65536 * s.cmu.settings.memorySize)
    (∀ n : Fin 8, claimantOf s a = some (.region n) ↔ covering n ∧ ∀ m : Fin 8, m < n → ¬ covering m)
      ∧ (claimantOf s a = some .pass ↔ (∀ n, ¬ covering n) ∧ aperture)
      ∧ (claimantOf s a = none ↔ (∀ n, ¬ covering n) ∧ ¬ aperture)

/-! ## Host port -/

/-- A request with no lanes enabled is answered at once with a normal response, in every state of the bridge, and nothing else happens
(R51). -/
def Obligations.ZeroLaneRequestIsAnswered : Prop :=
  ∀ (s : State) (write : Bool) (a : BitVec 22) (d : HostWord), Quiet s → s.hpc.state = .idle →
    exec (.hostRequest write a 0 d) s = .next
      { s with
        inp := { s.inp with hreq := true, lines := ⟨write, a, 0, d⟩ }
        hpc := { s.hpc with state := .answered, hdone := true, herr := false, hrd := 0 } }

/-- A request with lanes enabled that is seen while RESTART is in progress waits in DEFERRED; one seen outside IDLE is no new request
(R48, R49, R52). -/
def Obligations.RequestWaitsOutsideIdleAndRestart : Prop :=
  ∀ (s : State) (write : Bool) (a : BitVec 22) (lanes : BitVec 4) (d : HostWord), Quiet s →
    (s.hpc.state ≠ .idle →
      exec (.hostRequest write a lanes d) s = .next { s with inp := { s.inp with hreq := true, lines := ⟨write, a, lanes, d⟩ } })
    ∧ (s.hpc.state = .idle → s.cmu.restarting = true → lanes ≠ 0 →
      exec (.hostRequest write a lanes d) s = .next
        { s with
          inp := { s.inp with hreq := true, lines := ⟨write, a, lanes, d⟩ }
          hpc := { s.hpc with state := .deferred, hdone := false, herr := false, hrd := 0 } })

/-- An access that nobody claims is answered at once with an error response and reports UNCLAIMED; nothing else happens (R54). -/
def Obligations.UnclaimedRequestIsRefused : Prop :=
  ∀ (s : State) (write : Bool) (a : BitVec 22) (lanes : BitVec 4) (d : HostWord), Quiet s → s.hpc.state = .idle →
    s.cmu.restarting = false → lanes ≠ 0 → claimantOf s (4 * a.toNat) = none →
    exec (.hostRequest write a lanes d) s = .next
      { s with
        inp := { s.inp with hreq := true, lines := ⟨write, a, lanes, d⟩ }
        hpc := ⟨.answered,
          some ⟨if write then .write else .read, 4 * a.toNat, lanes, if write then d else 0, none, none, [], 0⟩, true, true, 0⟩
        flog := logged s.flog ⟨.unclaimed, none, if write then .write else .read, some (4 * a.toNat), none, none⟩ }

/-- A write to an RO region or a read from a WO region reports ACCESS_DENIED; then a lane set that splits a pair of a P16 region reports
PIXEL_SPLIT. The access is answered at once with an error and nothing else happens: no position is reserved (R55, R56, R73, R173). -/
def Obligations.RegionRefusesTheRequest : Prop :=
  ∀ (s : State) (write : Bool) (a : BitVec 22) (lanes : BitVec 4) (d : HostWord) (n : Fin 8), Quiet s → s.hpc.state = .idle →
    s.cmu.restarting = false → lanes ≠ 0 → LowestCovering s (4 * a.toNat) n →
    let r := s.rt[n]
    let denied : Prop := (r.access = .ro ∧ write = true) ∨ (r.access = .wo ∧ write = false)
    let split : Prop := r.format = .p16 ∧ (lanes.getLsbD 0 ≠ lanes.getLsbD 1 ∨ lanes.getLsbD 2 ≠ lanes.getLsbD 3)
    let refused (kind : FaultKind) : State :=
      { s with
        inp := { s.inp with hreq := true, lines := ⟨write, a, lanes, d⟩ }
        hpc := ⟨.answered,
          some ⟨if write then .write else .read, 4 * a.toNat, lanes, if write then d else 0, some (.region n), some r, [], 0⟩,
          true, true, 0⟩
        flog := logged s.flog ⟨kind, some (.region n), if write then .write else .read, some (4 * a.toNat), none, none⟩ }
    (denied → exec (.hostRequest write a lanes d) s = .next (refused .accessDenied))
      ∧ (¬ denied → split → exec (.hostRequest write a lanes d) s = .next (refused .pixelSplit))

/-- A pass-through access of one byte. A write, with no OPEN entry for its word and an entry FREE, opens the lowest-numbered FREE entry with that
byte as a P8 REPLACE pixel, reports the word to the latch and is answered normally. A read of the latched word is answered at once with no memory
operation and the latch kept; any other read, with no OPEN entry for the word, puts its READ item in the queue and waits. Nothing else happens. An
access of any lanes has one P8 REPLACE pixel for each enabled lane in ascending order, lanes 0 and 1 in word A / 2 and lanes 2 and 3 in the next, with
the lane's byte as a write's value, and goes to work on that list, a write with no other event between two placements unless the later pixel waits,
which is the model's choice (log entry 27) (R6, R7, R11, R59, R60, R61, R62, R89, R128, R129, R131, R134, R138). -/
def Obligations.PassByteIsPlacedOrGathered : Prop :=
  (∀ (s : State) (a : BitVec 22) (d : HostWord) (j : Fin 4), Quiet s → s.hpc.state = .idle →
    s.cmu.restarting = false → claimantOf s (4 * a.toNat) = some .pass →
    let lanes : BitVec 4 := 1#4 <<< j.val
    let word := (4 * a.toNat + j.val) / 2
    let slot := (4 * a.toNat + j.val) % 2
    let byte : Word := ((d >>> (8 * j.val)).setWidth 8).setWidth 16
    let access : AccessRecord :=
      ⟨.read, 4 * a.toNat, lanes, 0, some .pass, none, [.pixel ⟨j.val, word, slot, .p8, .replace, .pass, none⟩], 0⟩
    (∀ i : Fin 8, 1 ≤ s.cmu.settings.idleDelay → NoneAtAnswer s → NotOpenFor s word → LowestFreeIs s i →
      ∃ order : Nat, (∀ k : Fin 8, ∀ e ∈ s.mb[k], e.order < order)
        ∧ exec (.hostRequest true a lanes d) s = .next
          { s with
            inp := { s.inp with hreq := true, lines := ⟨true, a, lanes, d⟩ }
            mb := s.mb.set i (some ⟨.opened (.count (8 * s.cmu.settings.idleDelay)), word, .p8, .replace, byte <<< (8 * slot),
              1#16 <<< slot, order, .pass⟩)
            ral := ralReported s.ral word
            hpc := ⟨.answered,
              some ⟨.write, 4 * a.toNat, lanes, d, some .pass, none,
                [.pixel ⟨j.val, word, slot, .p8, .replace, .pass, some byte⟩], 1⟩, true, false, 0⟩ })
    ∧ (∀ l, s.ral.latch = some l → l.word = word →
      exec (.hostRequest false a lanes d) s = .next
        { s with
          inp := { s.inp with hreq := true, lines := ⟨false, a, lanes, d⟩ }
          rg := none
          hpc := ⟨.answered, some access, true, false, ((l.data >>> (8 * slot)).setWidth 8).setWidth 32 <<< (8 * j.val)⟩ })
    ∧ (s.ral.latch.map Latch.word ≠ some word → NotOpenFor s word →
      exec (.hostRequest false a lanes d) s = .next
        { s with
          inp := { s.inp with hreq := true, lines := ⟨false, a, lanes, d⟩ }
          mq := s.mq ++ [.gather word 0 .pass]
          rg := some ⟨.p8, [.pixel j.val word slot 0 .wait], [⟨word, .queued⟩]⟩
          hpc := ⟨.gathering, some access, false, false, 0⟩ }))
  ∧ ∀ (s : State) (write : Bool) (a : BitVec 22) (lanes : BitVec 4) (d : HostWord), Quiet s → s.hpc.state = .idle →
    s.cmu.restarting = false → lanes ≠ 0 → claimantOf s (4 * a.toNat) = some .pass →
    let entry (j : Nat) : ListEntry :=
      .pixel ⟨j, 4 * a.toNat / 2 + j / 2, j % 2, .p8, .replace, .pass,
        if write then some (((d >>> (8 * j)).setWidth 8).setWidth 16) else none⟩
    let access : AccessRecord :=
      ⟨if write then .write else .read, 4 * a.toNat, lanes, if write then d else 0, some .pass, none,
        (([0, 1, 2, 3] : List Nat).filter fun j => lanes.getLsbD j).map entry, 0⟩
    GoesToWork (exec (.hostRequest write a lanes d) s)
      (fun st => { s with inp := { s.inp with hreq := true, lines := ⟨write, a, lanes, d⟩ }, hpc := ⟨st, some access, false, false, 0⟩ })
      access .pass .p8

/-- A stream access reserves the positions from the cursor on, one to each enabled lane or pair in ascending order, each translated from
the snapshot; the cursor moves past them, but stays for a read in revisit mode; no other field of any record changes. Its pixels carry, in a write,
the low b bits of their host byte or the 16 bits of their pair as values, and the access goes to work on their list with the cursor moved,
a write with no other event between two placements unless the later pixel waits, which is the model's choice (log entry 27)
(R6, R57, R58, R60, R62, R69, R70, R71). -/
def Obligations.StreamClaimReservesAndMovesTheCursor : Prop :=
  ∀ (s : State) (write : Bool) (a : BitVec 22) (lanes : BitVec 4) (d : HostWord) (n : Fin 8), Quiet s → s.hpc.state = .idle →
    s.cmu.restarting = false → lanes ≠ 0 → LowestCovering s (4 * a.toNat) n →
    let r := s.rt[n]
    let units := enabledUnits r.format lanes
    r.kind = .stream → ¬ (r.access = .ro ∧ write = true) → ¬ (r.access = .wo ∧ write = false) →
    (r.format = .p16 → lanes.getLsbD 0 = lanes.getLsbD 1 ∧ lanes.getLsbD 2 = lanes.getLsbD 3) →
    let value (lane : Nat) : Word := (d >>> (8 * lane)).setWidth 16 &&& BitVec.ofNat 16 (2 ^ (16 / r.format.ppw) - 1)
    let entry (k lane : Nat) : ListEntry :=
      let place := r.translate (r.advance k r.cursor)
      .pixel ⟨lane, place.word, place.slot, r.format, r.op, .region n, if write then some (value lane) else none⟩
    let access : AccessRecord :=
      ⟨if write then .write else .read, 4 * a.toNat, lanes, if write then d else 0, some (.region n), some r, units.mapIdx entry, 0⟩
    let moved : Region := { r with cursor := if write = false ∧ r.revisit = true then r.cursor else r.advance units.length r.cursor }
    GoesToWork (exec (.hostRequest write a lanes d) s)
      (fun st =>
        { s with
          inp := { s.inp with hreq := true, lines := ⟨write, a, lanes, d⟩ }
          rt := s.rt.set n moved
          hpc := ⟨st, some access, false, false, 0⟩ })
      access (.region n) r.format
    ∧ ∃ t x, exec (.hostRequest write a lanes d) s = .next t
      ∧ t.rt = s.rt.set n moved
      ∧ t.hpc.access = some x ∧ x.claimant = some (.region n) ∧ x.snapshot = some r ∧ x.list.length = units.length
      ∧ ∀ k : Fin 4, ∀ lane ∈ units[k.val]?, ∃ p, x.list[k.val]? = some (.pixel p) ∧ p.lane = lane
          ∧ (⟨p.word, p.slot⟩ : Located) = r.translate (r.advance k.val r.cursor)
          ∧ p.format = r.format ∧ p.op = r.op ∧ p.origin = .region n

/-- A claim by a MAPPED region. Each enabled lane, or pair for P16, has the pixel index of its window offset; an index below Wd × H is the pixel at
that column and row, translated from the snapshot, with the low b bits of its host byte or its pair's 16 bits as a write's value, and any other is
the tail, dropped in a write and kept in a read. A write with no pixel left is answered at once; any other begins to place its list, with no other
event between two placements unless the later pixel waits, which is the model's choice (log entry 27). A read of tail lanes alone is answered at once with 0; any other gathers its list, and one that the latch serves whole is answered as READ_ANSWER answers it.
No cursor moves and no record changes (R6, R37 to R40, R53, R57, R58, R60 to R62). -/
def Obligations.MappedClaimFormsItsPixelList : Prop :=
  ∀ (s : State) (write : Bool) (a : BitVec 22) (lanes : BitVec 4) (d : HostWord) (n : Fin 8), Quiet s → s.hpc.state = .idle →
    s.cmu.restarting = false → lanes ≠ 0 → LowestCovering s (4 * a.toNat) n →
    let r := s.rt[n]
    r.kind = .mapped → ¬ (r.access = .ro ∧ write = true) → ¬ (r.access = .wo ∧ write = false) →
    (r.format = .p16 → lanes.getLsbD 0 = lanes.getLsbD 1 ∧ lanes.getLsbD 2 = lanes.getLsbD 3) →
    let units : List Nat := (if r.format = .p16 then [0, 2] else [0, 1, 2, 3]).filter fun j => lanes.getLsbD j
    let index (lane : Nat) : Nat := (4 * a.toNat + lane - r.windowBase) / r.format.hostBytes
    let place (lane : Nat) : Located := r.translate ⟨index lane % r.width, index lane / r.width⟩
    let value (lane : Nat) : Word := (d >>> (8 * lane)).setWidth 16 &&& BitVec.ofNat 16 (2 ^ (16 / r.format.ppw) - 1)
    let entry (lane : Nat) : ListEntry :=
      if index lane < r.width * r.height then
        .pixel ⟨lane, (place lane).word, (place lane).slot, r.format, r.op, .region n, if write then some (value lane) else none⟩
      else .tail lane
    let list := if write then (units.map entry).filter ListEntry.isPixel else units.map entry
    let access : AccessRecord :=
      ⟨if write then .write else .read, 4 * a.toNat, lanes, if write then d else 0, some (.region n), some r, list, 0⟩
    let claimed (st : HpcState) (done : Bool) : State :=
      { s with inp := { s.inp with hreq := true, lines := ⟨write, a, lanes, d⟩ }, hpc := ⟨st, some access, done, false, 0⟩ }
    let shown (lane : Nat) : Prop := index lane < r.width * r.height
    let inLatch (lane : Nat) : Prop := s.ral.latch.map Latch.word = some (place lane).word
    (write = true → list = [] → exec (.hostRequest write a lanes d) s = .next (claimed .answered true))
    ∧ (write = true → list ≠ [] → exec (.hostRequest write a lanes d) s = .next (continueWrite (claimed .placing false) access))
    ∧ (write = false → (∀ lane ∈ units, ¬ shown lane) →
        exec (.hostRequest write a lanes d) s = .next { claimed .answered true with rg := none })
    ∧ (write = false → (∃ lane ∈ units, shown lane ∧ ¬ inLatch lane) →
        exec (.hostRequest write a lanes d) s = .next (planRead (claimed .gathering false) (.region n) r.format list))
    ∧ (write = false → (∀ lane ∈ units, shown lane → inLatch lane) →
        exec (.hostRequest write a lanes d) s = exec .readAnswer (planRead (claimed .gathering false) (.region n) r.format list))

/-- What any request leaves unchanged: the MSQ, the HLD, the link, the CMU and the waiting commands; every region record but for the
cursor; every entry that is not OPEN; and every item already queued, in its place (R23, R31, R92, R109). -/
def Obligations.HostRequestFrame : Prop :=
  ∀ (s : State) (write : Bool) (a : BitVec 22) (lanes : BitVec 4) (d : HostWord), Quiet s →
    ∃ t, exec (.hostRequest write a lanes d) s = .next t
      ∧ t.msq = s.msq ∧ t.hld = s.hld ∧ t.cfl = s.cfl ∧ t.cmu = s.cmu ∧ t.pending = s.pending
      ∧ t.inp = { s.inp with hreq := true, lines := ⟨write, a, lanes, d⟩ }
      ∧ (∀ n : Fin 8, { t.rt[n] with cursor := (s.rt[n]).cursor } = s.rt[n])
      ∧ (∀ i : Fin 8, ∀ e ∈ s.mb[i], e.isOpen = false → t.mb[i] = some e)
      ∧ t.mq.take s.mq.length = s.mq

/-- A pixel that meets the OPEN entry of its word, format and op merges into it: its slot takes the combined operand and joins the coverage,
the idle timer restarts, the word is reported to the latch, and a REPLACE entry whose coverage is now full closes
(R10, R85, R86, R87, R93, R138). -/
def Obligations.PixelMergesIntoItsEntry : Prop :=
  ∀ (s : State) (p : Pixel) (v : Word) (i : Fin 8) (e : Entry), OneOpenPerWord s → p.value = some v →
    s.mb[i] = some e → e.isOpen = true → e.word = p.word → e.format = p.format → e.op = p.op →
    let timer : IdleTimer := if s.cmu.settings.idleDelay = 0 then .atAnswer else .count (8 * s.cmu.settings.idleDelay)
    let merged : Entry :=
      { e with
        state := .opened timer
        operand := withSlot e.format e.operand p.slot (e.op.combine (slotValue e.format e.operand p.slot) v)
        coverage := withCovered e.coverage p.slot }
    placePixel s p = .accepted
      (if e.op = .replace ∧ merged.coverage = BitVec.ofNat 16 (2 ^ e.format.ppw - 1) then
        { s with mb := s.mb.set i (some { merged with state := .closed }), ral := ralReported s.ral p.word, mq := s.mq ++ [.entry i] }
      else { s with mb := s.mb.set i (some merged), ral := ralReported s.ral p.word })

/-- A pixel for whose word no OPEN entry holds its format and op opens the lowest-numbered FREE entry, after an OPEN entry of the word with
another format or op has closed; with no entry FREE it waits, and when no entry was closed by the mismatch and one is OPEN, an OPEN entry
that is oldest by opened order closes (R85, R87, R88, R89, R90). -/
def Obligations.PixelOpensAnEntryOrWaits : Prop :=
  ∀ (s : State) (p : Pixel) (v : Word), OneOpenPerWord s → p.value = some v →
    let timer : IdleTimer := if s.cmu.settings.idleDelay = 0 then .atAnswer else .count (8 * s.cmu.settings.idleDelay)
    let complete : Prop := p.op = .replace ∧ withCovered 0 p.slot = BitVec.ofNat 16 (2 ^ p.format.ppw - 1)
    (∀ k : Fin 8, NotOpenFor s p.word → LowestFreeIs s k →
      ∃ order t, (∀ j : Fin 8, ∀ e ∈ s.mb[j], e.order < order) ∧ placePixel s p = .accepted t
        ∧ t.mb = s.mb.set k (some ⟨if complete then .closed else .opened timer, p.word, p.format, p.op, withSlot p.format 0 p.slot v,
            withCovered 0 p.slot, order, p.origin⟩)
        ∧ t.mq = s.mq ++ (if complete then [.entry k] else [])
        ∧ t = { s with mb := t.mb, mq := t.mq, ral := ralReported s.ral p.word })
    ∧ (∀ (i : Fin 8) (e : Entry), s.mb[i] = some e → e.isOpen = true → e.word = p.word → (e.format ≠ p.format ∨ e.op ≠ p.op) →
        placePixel s p =
          placePixel { s with mb := s.mb.set i (some { e with state := .closed }), mq := s.mq ++ [.entry i] } p)
    ∧ (NotOpenFor s p.word → (∀ k : Fin 8, s.mb[k] ≠ none) →
      ((∀ i : Fin 8, ∀ e ∈ s.mb[i], e.isOpen = false) → placePixel s p = .waits s)
      ∧ ((∃ i : Fin 8, (s.mb[i]).any Entry.isOpen = true) →
          ∃ (i : Fin 8) (e : Entry), s.mb[i] = some e ∧ e.isOpen = true ∧ (∀ j : Fin 8, ∀ f ∈ s.mb[j], f.isOpen = true → e.order ≤ f.order)
            ∧ placePixel s p = .waits { s with mb := s.mb.set i (some { e with state := .closed }), mq := s.mq ++ [.entry i] }))

/-- The gather of a read: each distinct word has one word slot, in order of first appearance, and each list entry one pixel slot with its lane, its
word, its slot and its word's index, DONE when the latch holds the word and else WAIT; a word of the valid latch is copied; for every other word
the OPEN entry that holds it closes and the READ item joins the queue behind it; items queued before keep their places (R96, R128, R129). -/
def Obligations.GatherReadsBehindTheEntries : Prop :=
  ∀ (s : State) (origin : Origin) (f : Format) (l : List ListEntry), OneOpenPerWord s →
    let words : List Nat := (l.filterMap fun x =>
      match x with
      | .pixel p => some p.word
      | .tail _ => none).eraseDups
    ∃ g, (planRead s origin f l).rg = some g ∧ g.format = f ∧ g.words.map WordSlot.word = words
      ∧ g.pixels = (l.map fun x =>
        match x with
        | .tail lane => .tail lane
        | .pixel p =>
          .pixel p.lane p.word p.slot (words.idxOf p.word) (if s.ral.latch.map Latch.word = some p.word then .done else .wait))
      ∧ (∀ x ∈ g.words, ∀ c, s.ral.latch = some c → c.word = x.word → x.state = .latchHit c.data)
      ∧ (∀ k x, g.words[k]? = some x → s.ral.latch.map Latch.word ≠ some x.word →
          x.state = .queued ∧ (∀ i : Fin 8, ∀ e ∈ (planRead s origin f l).mb[i], e.word = x.word → e.isOpen = false)
          ∧ ∃ before after, (planRead s origin f l).mq = s.mq ++ before ++ .gather x.word k origin :: after
              ∧ ∀ i : Fin 8, ∀ e ∈ s.mb[i], e.isOpen = true → e.word = x.word → .entry i ∈ before)

/-- Each lane of the assembled data carries the slot value of its pixel, and every lane without a resolved pixel reads 0 (R7, R131). -/
def Obligations.ReadDataIsAssembledByLanes : Prop :=
  ∀ (g : Gather) (j : Nat), j < 4 →
    let laneOf : PixelSlot → Nat := fun x =>
      match x with
      | .tail lane => lane
      | .pixel lane _ _ _ _ => lane
    (g.pixels.map laneOf).Nodup → (g.format = .p16 → ∀ x ∈ g.pixels, laneOf x % 2 = 0) →
    (∀ word slot index c, .pixel j word slot index .done ∈ g.pixels → (g.words[index]?).bind WordSlot.data? = some c →
        if g.format = .p16 then (g.assembled >>> (8 * j)).setWidth 16 = slotValue g.format c slot
        else (g.assembled >>> (8 * j)).setWidth 8 = (slotValue g.format c slot).setWidth 8)
    ∧ ((∀ lane word slot index, .pixel lane word slot index .done ∈ g.pixels → lane ≠ j ∧ (g.format = .p16 → lane + 1 ≠ j)) →
        (g.assembled >>> (8 * j)).setWidth 8 = 0#8)

/-- A read whose gather is complete is answered: normally with the assembled data, or with an error and 0 when a word failed, and the gather record
goes out of use. After a read of a stream region, and after no other, a prefetch of the word at the live cursor is issued when R135 and R136 ask for
it: the latch is invalidated, the OPEN entry for the word closes, READ(W′, PREFETCH) joins the tail and the marker is set. Nothing else happens in
this row: an end of RESTART that the answer makes possible, which R170 places in this event, is the next row by the model's choice (log entry 2)
(R63, R96, R131, R135, R136). -/
def Obligations.CompleteReadIsAnswered : Prop :=
  ∀ (s : State) (g : Gather) (a : AccessRecord), s.inp.rstn = true → s.hpc.state = .gathering → s.rg = some g →
    (∀ x ∈ g.words, x.isQueued = false) → s.hpc.access = some a →
    let failed := g.pixels.any PixelSlot.isFailed
    let answered : State :=
      { s with
        rg := none
        hpc := ⟨if s.inp.hreq then .answered else .idle, if s.inp.hreq then some a else none, true, failed,
          if failed then 0 else g.assembled⟩ }
    ((∀ r ∈ a.snapshot, r.kind = .mapped) → exec .readAnswer s = .next answered)
    ∧ ∀ (n : Fin 8) (r : Region), a.claimant = some (.region n) → a.snapshot = some r → r.kind = .stream →
      let live := s.rt[n]
      let word := (live.translate live.cursor).word
      let asked : Prop :=
        r.readAhead = true ∧ r.revisit = false ∧ s.cmu.restarting = false ∧ live.enabled = true ∧ live.kind = .stream
          ∧ s.ral.prefetch = none ∧ s.ral.latch.map Latch.word ≠ some word
      (¬ asked → exec .readAnswer s = .next answered)
      ∧ (asked → NotOpenFor s word → exec .readAnswer s = .next
          { answered with mq := s.mq ++ [.prefetch word (.region n)], ral := ⟨none, some ⟨word, false⟩⟩ })
      ∧ (asked → OneOpenPerWord s → ∀ (i : Fin 8) (e : Entry), s.mb[i] = some e → e.isOpen = true → e.word = word →
          exec .readAnswer s = .next
            { answered with
              mb := s.mb.set i (some { e with state := .closed })
              mq := s.mq ++ [.entry i, .prefetch word (.region n)]
              ral := ⟨none, some ⟨word, false⟩⟩ })

/-- HREQ low returns ANSWERED and DEFERRED to IDLE, with the access record cleared, and cancels no access in flight (R48, R49, R52).
That HDONE has fallen by then is the model's choice (log entry 6). -/
def Obligations.HreqLowEndsTheAnswerOnly : Prop :=
  ∀ s : State, Quiet s →
    let ends : Prop := s.hpc.state = .answered ∨ s.hpc.state = .deferred
    exec .hreqLow s = .next
      { s with
        inp := { s.inp with hreq := false }
        hpc := ⟨if ends then .idle else s.hpc.state, if ends then none else s.hpc.access, false, false, 0⟩ }

/-- A waiting last pixel opens the lowest-numbered FREE entry, its word is reported to the latch, and the write is answered; nothing else
happens (R61, R89, R91, R138). -/
def Obligations.WaitingPixelOpensTheFreedEntry : Prop :=
  ∀ (s : State) (a : AccessRecord) (before : List ListEntry) (p : Pixel) (v : Word) (i : Fin 8), s.inp.rstn = true →
    s.hpc.state = .placing → s.hpc.access = some a → a.list = before ++ [.pixel p] → a.next = before.length → p.value = some v →
    LowestFreeIs s i → NotOpenFor s p.word → 1 ≤ s.cmu.settings.idleDelay → NoneAtAnswer s → s.cmu.restarting = false →
    ¬ (p.op = .replace ∧ withCovered 0 p.slot = BitVec.ofNat 16 (2 ^ p.format.ppw - 1)) →
    ∃ order, (∀ k : Fin 8, ∀ e ∈ s.mb[k], e.order < order) ∧ exec .waitingPlacementTaken s = .next
      { s with
        mb := s.mb.set i (some ⟨.opened (.count (8 * s.cmu.settings.idleDelay)), p.word, p.format, p.op,
          withSlot p.format 0 p.slot v, withCovered 0 p.slot, order, p.origin⟩)
        ral := ralReported s.ral p.word
        hpc := ⟨if s.inp.hreq then .answered else .idle, if s.inp.hreq then some { a with next := before.length + 1 } else none,
          true, false, 0⟩ }

/-- A write in PLACING hands its pixels on in list order, in one event, until one waits or none is left: a pixel that is taken leaves the rest to
be handed on from the state it gives, one that waits leaves the HPC in PLACING with that pixel next, and after the last the write is answered and
the MB is notified: every entry AT_ANSWER closes in opened order, or while RESTART is in progress every OPEN entry. WAITING_PLACEMENT_TAKEN
goes on with the write once an entry is FREE (R60, R61, R91, R92, R94, R99). That no other event comes between two placements of one access
unless the later pixel waits is the model's choice (log entry 27). -/
def Obligations.PlacingHandsThePixelsOn : Prop :=
  ∀ (s : State) (a : AccessRecord),
    (s.inp.rstn = true → s.hpc.state = .placing → s.hpc.access = some a → a.next < a.list.length → (∃ i : Fin 8, s.mb[i] = none) →
      exec .waitingPlacementTaken s = .next (continueWrite s a))
    ∧ (∀ p, a.list[a.next]? = some (.pixel p) →
        (∀ u, placePixel s p = .accepted u → continueWrite s a = continueWrite u { a with next := a.next + 1 })
        ∧ ∀ u, placePixel s p = .waits u → continueWrite s a = { u with hpc := { s.hpc with access := some a } })
    ∧ (a.list.length ≤ a.next →
        ∃ t, continueWrite s a = t
          ∧ t = { s with
            mb := t.mb
            mq := t.mq
            hpc := ⟨if s.inp.hreq then .answered else .idle, if s.inp.hreq then some a else none, true, false, 0⟩ }
          ∧ (s.cmu.restarting = true → ClosedWhere Entry.isOpen s t)
          ∧ (s.cmu.restarting = false → ClosedWhere Entry.isAtAnswer s t))

/-! ## Merge buffer timers and memory sequencer -/

/-- The expiry of an OPEN entry's counting timer closes it: it becomes CLOSED and its item joins the tail; for any other entry nothing
happens (R92, R94). The row says that the count has reached zero and does not consult the count held, by the model's choice (log entry 5). -/
def Obligations.IdleExpiryClosesTheEntry : Prop :=
  ∀ (s : State) (i : Fin 8), Quiet s →
    (∀ e n, s.mb[i] = some e → e.state = .opened (.count n) →
      exec (.idleExpiry i.val) s = .next { s with mb := s.mb.set i (some { e with state := .closed }), mq := s.mq ++ [.entry i] })
    ∧ ((∀ e ∈ s.mb[i], ∀ n, e.state ≠ .opened (.count n)) → exec (.idleExpiry i.val) s = .next s)

/-- The MSQ in IDLE, with MRDY low and the HLD's permission, begins the head item: a REPLACE entry without a PARTIAL byte as a strobe write on
its WHOLE bytes, any other entry as the read of a read-modify-write, a READ item as a read; otherwise nothing happens
(R101, R102, R103, R114 to R119). -/
def Obligations.HeadItemIsBegun : Prop :=
  ∀ (s : State), Quiet s →
    let begun (st : MsqState) (x : Item) (word : Nat) (kind : OpKind) (dir : Direction) (mwe : Bool) (mbs : BitVec 2)
        (md : Option Word) : Msq :=
      ⟨st, some ⟨x, word, kind, .ready⟩, some s.cmu.settings.readyTimeout, some (word, dir), s.msq.stuckOf,
        .cycle ⟨BitVec.ofNat 20 word, mwe, mbs, md⟩⟩
    let may : Prop := s.msq.state = .idle ∧ s.inp.mrdy = false ∧ HeadAllowed s
    (may → ∀ (i : Fin 8) (rest : List Item) (e : Entry), s.mq = .entry i :: rest → s.mb[i] = some e →
      let strobe : Prop := e.op = .replace ∧ ∀ b, byteClass e.format e.coverage b ≠ .partly
      (strobe → exec .beginItem s = .next
        { s with
          mb := s.mb.set i (some { e with state := .active .strobeWrite })
          msq := begun .writing (.entry i) e.word .strobeWrite .write true (strobeSet e.format e.coverage) (some e.operand) })
      ∧ (¬ strobe → exec .beginItem s = .next
        { s with
          mb := s.mb.set i (some { e with state := .active .rmwRead })
          msq := begun .reading (.entry i) e.word (.rmw none) .write false 3#2 none }))
    ∧ (may → ∀ (w k : Nat) (o : Origin) (rest : List Item), s.mq = .gather w k o :: rest →
      exec .beginItem s = .next { s with msq := begun .reading (.gather w k o) w .read .read false 3#2 none })
    ∧ (may → ∀ (w : Nat) (o : Origin) (rest : List Item), s.mq = .prefetch w o :: rest →
      exec .beginItem s = .next { s with msq := begun .reading (.prefetch w o) w .read .read false 3#2 none })
    ∧ (¬ may ∨ s.mq = [] → exec .beginItem s = .next s)

/-- The completions of memory operations. A write's completion frees the entry, removes its item with every mark lowered, drops MCS and arms the
timer for the release step. The completion of the read of a read-modify-write forms the new word from the word on MD and the entry, moves the entry
to RMW_WRITE, drops MCS and arms the timer; the word does not reach the latch. The completion of a READ item hands the word on MD to the gather word
it names, with the pixels that wait for it, or to the latch when its prefetch is not dropped; the item is removed with every mark lowered and MCS
drops. Nothing else happens in these rows: a waiting pixel, the answer of a read, FLUSH_DONE and the end of RESTART, which R91, R131, R168 and R170
place in these events, are the next rows by the model's choice (log entry 2)
(R9, R103, R104, R110, R111, R115 to R119, R130, R137). -/
def Obligations.MemoryOperationCompletes : Prop :=
  (∀ (s : State) (i : Fin 8) (rest : List Item) (w : Nat) (e : Entry) (md : Word), Quiet s → s.mq = .entry i :: rest →
    s.mb[i] = some e →
    let released (kind : OpKind) : Msq :=
      { s.msq with op := some ⟨.entry i, w, kind, .release⟩, timer := some s.cmu.settings.readyTimeout, port := .deselected }
    let written (kind : OpKind) : State :=
      { s with
        inp := { s.inp with mrdy := true }
        mb := s.mb.set i none
        mq := rest
        msq := released kind
        cmu := { s.cmu with flushMark := lowered s.cmu.flushMark }
        hld := { s.hld with drainMark := lowered s.hld.drainMark } }
    (s.msq.state = .writing → s.msq.op = some ⟨.entry i, w, .strobeWrite, .ready⟩ →
      exec .strobeWriteComplete s = .next (written .strobeWrite))
    ∧ (∀ v, s.msq.state = .writing → s.msq.op = some ⟨.entry i, w, .rmw v, .ready⟩ →
      exec .rmwWriteComplete s = .next (written (.rmw v)))
    ∧ (s.msq.state = .reading → s.msq.op = some ⟨.entry i, w, .rmw none, .ready⟩ →
      exec (.rmwReadComplete md) s = .next
        { s with
          inp := { s.inp with mrdy := true, md := md }
          mb := s.mb.set i (some { e with state := .active .rmwWrite })
          msq := released (.rmw (some (applyToWord e.format e.op e.coverage e.operand md))) }))
  ∧ ∀ (s : State) (md : Word) (w : Nat) (o : Origin) (x : Item) (rest : List Item), Quiet s → s.msq.state = .reading →
    s.msq.op = some ⟨x, w, .read, .ready⟩ → s.mq = x :: rest →
    let ended : State :=
      { s with
        inp := { s.inp with mrdy := true, md := md }
        mq := rest
        msq := { s.msq with op := some ⟨x, w, .read, .release⟩, timer := some s.cmu.settings.readyTimeout, port := .deselected }
        cmu := { s.cmu with flushMark := lowered s.cmu.flushMark }
        hld := { s.hld with drainMark := lowered s.hld.drainMark } }
    (∀ (k : Nat) (g : Gather), x = .gather w k o → s.rg = some g → g.words[k]? = some ⟨w, .queued⟩ →
      exec (.readComplete md) s = .next
        { ended with
          rg := some
            { g with
              words := g.words.set k ⟨w, .returned md⟩
              pixels := g.pixels.map fun y =>
                match y with
                | .pixel lane word slot index .wait => .pixel lane word slot index (if index = k then .done else .wait)
                | other => other } })
    ∧ (∀ p : Prefetch, x = .prefetch w o → s.ral.prefetch = some p →
      exec (.readComplete md) s = .next { ended with ral := ⟨if p.dropped then none else some ⟨p.word, md⟩, none⟩ })

/-- MRDY low in a release step: after the read of a read-modify-write its write begins with both strobes and the new word, and after any other
operation the MSQ returns to IDLE. Nothing else happens in this row: the grant of a PENDING request, which R143 and R144 place in this event, is
the next row by the model's choice (log entry 2), and so is the begin of the head item (log entry 29) (R115, R116, R117, R118, R119). -/
def Obligations.ReleaseReturnsToIdleOrWrites : Prop :=
  ∀ (s : State) (x : Item) (w : Nat) (kind : OpKind), Quiet s → s.msq.op = some ⟨x, w, kind, .release⟩ →
    (∀ v, s.msq.state = .reading → kind = .rmw (some v) → exec .mrdyRelease s = .next
      { s with
        inp := { s.inp with mrdy := false }
        msq := ⟨.writing, some ⟨x, w, .rmw (some v), .ready⟩, some s.cmu.settings.readyTimeout, some (w, .write), s.msq.stuckOf,
          .cycle ⟨BitVec.ofNat 20 w, true, 3#2, some v⟩⟩ })
    ∧ (s.msq.state = .writing ∨ (s.msq.state = .reading ∧ kind = .read) → exec .mrdyRelease s = .next
      { s with
        inp := { s.inp with mrdy := false }
        msq := ⟨.idle, none, none, s.msq.last, none, .deselected⟩ })

/-- A first expiry drops MCS, ends the head item if its operation has not completed, with its fault, and enters RECOVER with the timer armed:
an entry becomes FREE with WRITE_TIMEOUT or RMW_READ_TIMEOUT, a READ fails its gather word or its prefetch with READ_TIMEOUT. Nothing else happens
in this row: a waiting pixel taken, the answer of a failed read, FLUSH_DONE and the end of RESTART are the next rows by the model's choice (log
entry 2), and the row does not consult the count (log entry 5). In a CLK period with no command waiting, a step of the model's choice (log entry 4),
the ready timer counts down by one, and its running out is this expiry (R104, R110, R119, R120, R130, R137, R172). -/
def Obligations.FirstExpiryEndsTheOperation : Prop :=
  ∀ (s : State) (x : Item) (rest : List Item) (w : Nat) (kind : OpKind) (st : OpStep), Quiet s →
    s.msq.state = .reading ∨ s.msq.state = .writing → s.msq.op = some ⟨x, w, kind, st⟩ →
    let recovering : Msq := ⟨.recover, none, some s.cmu.settings.readyTimeout, s.msq.last, s.msq.last, .deselected⟩
    let ended : State :=
      { s with
        mq := rest
        msq := recovering
        cmu := { s.cmu with flushMark := lowered s.cmu.flushMark }
        hld := { s.hld with drainMark := lowered s.hld.drainMark } }
    let entryFault : Option FaultKind :=
      match s.msq.state, kind, st with
      | .writing, .strobeWrite, .ready => some .writeTimeout
      | .reading, .rmw none, .ready => some .rmwReadTimeout
      | .reading, .rmw (some _), .release => some .writeTimeout
      | .writing, .rmw (some _), .ready => some .writeTimeout
      | _, _, _ => none
    (∀ (i : Fin 8) (e : Entry), ∀ f ∈ entryFault, x = .entry i → s.mq = x :: rest → s.mb[i] = some e →
      exec .readyTimeout s = .next
        { ended with
          mb := s.mb.set i none
          flog := logged s.flog ⟨f, some e.origin, .write, none, some e.word, none⟩ })
    ∧ (∀ (k : Nat) (o : Origin) (g : Gather), kind = .read → st = .ready → x = .gather w k o → s.mq = x :: rest → s.rg = some g →
      g.words[k]? = some ⟨w, .queued⟩ → exec .readyTimeout s = .next
        { ended with
          rg := some
            { g with
              words := g.words.set k ⟨w, .failed⟩
              pixels := g.pixels.map fun y =>
                match y with
                | .pixel lane word slot index .wait => .pixel lane word slot index (if index = k then .failed else .wait)
                | other => other }
          flog := logged s.flog ⟨.readTimeout, some o, .read, none, some w, some .gather⟩ })
    ∧ (∀ (o : Origin), kind = .read → st = .ready → x = .prefetch w o → s.mq = x :: rest → s.ral.prefetch.isSome = true →
      exec .readyTimeout s = .next
        { ended with
          ral := ⟨none, none⟩
          flog := logged s.flog ⟨.readTimeout, some o, .read, none, some w, some .prefetch⟩ })
    ∧ (st = .release → (kind = .read ∨ kind = .strobeWrite ∨ (s.msq.state = .writing ∧ ∃ v, kind = .rmw (some v))) →
      exec .readyTimeout s = .next { s with msq := recovering })
    ∧ (∀ n : Nat, s.pending = [] → s.msq.timer = some n →
      (∃ t, step s = .next t ∧ t.msq = if 1 < n then { s.msq with timer := some (n - 1) } else recovering)
      ∧ (n ≤ 1 → s.inp.hreq = false → s.hpc.hdone = false → HostLinesOk s → NoneCounting s → step s = exec .readyTimeout s))

/-- RECOVER: the fall of MRDY returns it to IDLE; a second expiry records MEMORY_STUCK with the word and direction of the operation before it,
or no word and the direction read, and enters STUCK. MRDY high in IDLE enters RECOVER without a fault; in RECOVER, STUCK and HELD the level alone
changes, and in READING and WRITING, where a rise is a completion, nothing does, by the model's choice (log entry 10). Nothing else happens in these rows: the
grant of a PENDING request, which R143 and R149 place in the event that ends RECOVER, and the begin of the head item are the next rows (log entries 2, 29),
SECOND_EXPIRY does not consult the count (log entry 5) and RECOVER_END does not consult the held level of MRDY (log entry 10), all by the model's
choice. In a CLK period with no command waiting, of the model's choice (log entry 4), and no request to be taken, the ready timer counts down by one,
and its running out is the second expiry (R119, R121, R122, R124, R125, R175). -/
def Obligations.RecoverEndsInIdleOrStuck : Prop :=
  ∀ s : State, Quiet s →
    (s.msq.state = .recover →
      exec .recoverEnd s = .next
        { s with inp := { s.inp with mrdy := false }, msq := ⟨.idle, none, none, s.msq.last, none, .deselected⟩ }
      ∧ exec .secondExpiry s = .next
        { s with
          msq := ⟨.stuck, none, none, s.msq.last, none, .deselected⟩
          flog := logged s.flog
            (match s.msq.stuckOf with
              | some (w, dir) => ⟨.memoryStuck, none, dir, none, some w, none⟩
              | none => ⟨.memoryStuck, none, .read, none, none, none⟩) }
      ∧ ∀ n : Nat, s.pending = [] → s.msq.timer = some n →
        (s.inp.hreq = false ∨ s.hpc.state ≠ .idle → ∃ t, step s = .next t
          ∧ t.msq = if 1 < n then { s.msq with timer := some (n - 1) } else ⟨.stuck, none, none, s.msq.last, none, .deselected⟩)
        ∧ (n ≤ 1 → s.inp.hreq = false → s.hpc.hdone = false → HostLinesOk s → NoneCounting s → step s = exec .secondExpiry s))
    ∧ (s.msq.state = .idle →
      exec .unsolicitedReady s = .next
        { s with
          inp := { s.inp with mrdy := true }
          msq := ⟨.recover, none, some s.cmu.settings.readyTimeout, s.msq.last, none, .deselected⟩ })
    ∧ (s.msq.state = .recover ∨ s.msq.state = .stuck ∨ s.msq.state = .held →
      exec .unsolicitedReady s = .next { s with inp := { s.inp with mrdy := true } })
    ∧ (s.msq.state = .reading ∨ s.msq.state = .writing → exec .unsolicitedReady s = .next s)

/-- In STUCK each permitted head item is dropped with DROPPED_STUCK: an entry becomes FREE, a READ fails its gather word or its prefetch, the item
is removed with every mark lowered; MRDY low returns the MSQ to IDLE. Nothing else happens in these rows: a waiting pixel taken, the answer of a
failed read, the grant, FLUSH_DONE and the end of RESTART, which R91, R131, R144, R168 and R170 place in the event of the drop, are the next rows by
the model's choice (log entry 2), and so is the begin of the head item after STUCK_END (log entry 29). A head item
not permitted is kept; only states that no run reaches are quiet, in STUCK and keep it, since a request is granted at once there when it keeps an item
back (R110, R111, R123, R124, R130, R137). -/
def Obligations.StuckDropsTheHeadItem : Prop :=
  ∀ (s : State) (x : Item) (rest : List Item), Quiet s → s.msq.state = .stuck →
    let ended : State :=
      { s with
        mq := rest
        cmu := { s.cmu with flushMark := lowered s.cmu.flushMark }
        hld := { s.hld with drainMark := lowered s.hld.drainMark } }
    exec .stuckEnd s = .next
      { s with inp := { s.inp with mrdy := false }, msq := ⟨.idle, none, none, s.msq.last, none, .deselected⟩ }
    ∧ (¬ HeadAllowed s → exec .stuckDrop s = .next s)
    ∧ (HeadAllowed s → s.mq = x :: rest →
      (∀ (i : Fin 8) (e : Entry), x = .entry i → s.mb[i] = some e → exec .stuckDrop s = .next
        { ended with
          mb := s.mb.set i none
          flog := logged s.flog ⟨.droppedStuck, some e.origin, .write, none, some e.word, none⟩ })
      ∧ (∀ (w k : Nat) (o : Origin) (g : Gather), x = .gather w k o → s.rg = some g → g.words[k]? = some ⟨w, .queued⟩ →
        exec .stuckDrop s = .next
          { ended with
            rg := some
              { g with
                words := g.words.set k ⟨w, .failed⟩
                pixels := g.pixels.map fun y =>
                  match y with
                  | .pixel lane word slot index .wait => .pixel lane word slot index (if index = k then .failed else .wait)
                  | other => other }
            flog := logged s.flog ⟨.droppedStuck, some o, .read, none, some w, some .gather⟩ })
      ∧ (∀ (w : Nat) (o : Origin), x = .prefetch w o → s.ral.prefetch.isSome = true → exec .stuckDrop s = .next
        { ended with
          ral := ⟨none, none⟩
          flog := logged s.flog ⟨.droppedStuck, some o, .read, none, some w, some .prefetch⟩ }))

/-! ## Hold -/

/-- MHOLD rising in NONE: PENDING with the policy setting; under DRAIN_FIRST every OPEN entry closes in opened order and the drain mark counts
every item then in the queue. The grant when its condition holds: GRANTED, the MSQ HELD with the outputs floated, the latch invalid, a pending
prefetch dropped, the drain mark removed. MHOLD falling: a PENDING request is withdrawn and its mark removed, and from IDLE with MRDY low the head item
is begun in that event as BEGIN_ITEM begins it; a GRANTED port is released, the MSQ entering STUCK when MRDY is high and IDLE when it is low, without a
fault. Nothing else happens in these rows: a grant that is possible at once, which R142 and R143 place in the event of the request, is the next row (log
entry 2), and so is the head item that the MSQ begins after a release (log entry 29), both by the model's choice, as is the level of MRDY as an operand
of the release (log entry 23) (R92, R98, R114, R125, R139, R142 to R145, R147, R148). -/
def Obligations.PortIsRequestedGrantedAndReleased : Prop :=
  (∀ s : State, Quiet s → s.hld.state = .none →
    (s.cmu.settings.holdPolicy = .immediate →
      exec .holdRequest s = .next { s with inp := { s.inp with mhold := true }, hld := ⟨.pending .immediate, none⟩ })
    ∧ (s.cmu.settings.holdPolicy = .drainFirst →
      ∃ t, exec .holdRequest s = .next t ∧ ClosedAll s t
        ∧ t = { s with
          inp := { s.inp with mhold := true }
          mb := t.mb
          mq := t.mq
          hld := ⟨.pending .drainFirst, some t.mq.length⟩ }))
  ∧ ∀ (s : State) (p : HoldPolicy) (mrdy : Bool), s.inp.rstn = true →
    (s.hld.state = .pending p → (s.msq.state = .idle ∨ s.msq.state = .stuck) → (p = .drainFirst → s.hld.drainMark = some 0) →
      ∃ t, exec .holdGrant s = .next t
        ∧ t = { s with
          hld := ⟨.granted p, none⟩
          msq := ⟨.held, none, none, s.msq.last, none, .floated⟩
          ral := ⟨none, s.ral.prefetch.map fun q => ⟨q.word, true⟩⟩ }
        ∧ t.mhlda = true)
    ∧ (Quiet s → s.hld.state = .pending p →
      let withdrawn : State := { s with inp := { s.inp with mhold := false }, hld := ⟨.none, none⟩ }
      (s.msq.state ≠ .idle ∨ s.inp.mrdy = true ∨ s.mq = [] → exec .holdWithdraw s = .next withdrawn)
      ∧ (s.msq.state = .idle → s.inp.mrdy = false → HeadAllowed withdrawn ∧ exec .holdWithdraw s = exec .beginItem withdrawn))
    ∧ (Quiet s → s.hld.state = .granted p →
      ∃ t, exec (.holdRelease mrdy) s = .next t
        ∧ t = { s with
          inp := { s.inp with mhold := false, mrdy := mrdy }
          hld := ⟨.none, none⟩
          msq := ⟨if mrdy then .stuck else .idle, none, none, s.msq.last, none, .deselected⟩ }
        ∧ t.mhlda = false)

/-! ## Configuration link -/

/-- LSEL falling in IDLE begins a frame in COMMAND with byte count 0, the staging record empty and LDO driven 0; LSEL rising returns to IDLE and
discards the frame, and the last result becomes ABORTED exactly when the frame was not empty and had not reached its apply point. A rising edge of LCLK
that completes no byte samples one bit in COMMAND and PARAMETERS, takes one bit away from what is shifted out in RESULT and RESPONSE, and is ignored
while LSEL is high; an edge in TRAILER counts its bits and bytes alone; a falling edge changes LDO alone. The eighth bit of a byte counts the byte and
empties the shifter: in COMMAND, for a listed code with parameters, it goes to PARAMETERS; in PARAMETERS, before the last byte, the byte joins the
staging record; in RESULT it goes to RESPONSE when a response follows and else to TRAILER; in RESPONSE, before the last bit, it stays there. The last bit
of a response that reports no fault goes to TRAILER and changes nothing else. That LDO is driven 0 from the fall of LSEL, and
that the byte count and the shifter are 0 outside a frame, is the model's choice (log entry 20) (R151, R152, R153, R156, R157, R158, R161). -/
def Obligations.FrameLinesAndEdges : Prop :=
  ∀ (s : State) (ldi : Bool), Quiet s →
    let pins : Inputs := { s.inp with lclk := true, ldi := ldi }
    (s.cfl.state = .idle → exec .frameStart s = .next
      { s with inp := { s.inp with lsel := false }, cfl := ⟨.command, 0, 0, 0, none, [], [], .plain, some false⟩ })
    ∧ (s.cfl.state ≠ .idle → exec .frameStart s = .next { s with inp := { s.inp with lsel := false } })
    ∧ exec .frameEnd s = .next
      { s with
        inp := { s.inp with lsel := true }
        cfl := ⟨.idle, 0, 0, 0, none, [], [], .plain, none⟩
        cmu := { s.cmu with
          lastResult :=
            if s.cfl.state = .parameters ∨ (s.cfl.state = .command ∧ s.cfl.bitCount ≠ 0) then .aborted else s.cmu.lastResult } }
    ∧ (s.cfl.bitCount < 7 → (s.cfl.state = .command ∨ s.cfl.state = .parameters) → exec (.lclkRisingEdge ldi) s = .next
      { s with
        inp := pins
        cfl := { s.cfl with bitCount := s.cfl.bitCount + 1, shifter := (s.cfl.shifter <<< 1) ||| (if ldi then 1#8 else 0#8) } })
    ∧ (s.cfl.bitCount < 7 → (s.cfl.state = .result ∨ (s.cfl.state = .response ∧ s.cfl.out.length ≠ 1)) →
      exec (.lclkRisingEdge ldi) s = .next
        { s with inp := pins, cfl := { s.cfl with bitCount := s.cfl.bitCount + 1, out := s.cfl.out.tail } })
    ∧ (s.cfl.state = .trailer → exec (.lclkRisingEdge ldi) s = .next
      { s with
        inp := pins
        cfl :=
          if s.cfl.bitCount = 7 then { s.cfl with byteCount := s.cfl.byteCount + 1, bitCount := 0, shifter := 0 }
          else { s.cfl with bitCount := s.cfl.bitCount + 1 } })
    ∧ (s.cfl.bitCount = 7 →
      let byte : Byte := (s.cfl.shifter <<< 1) ||| (if ldi then 1#8 else 0#8)
      let next : Cfl := { s.cfl with byteCount := s.cfl.byteCount + 1, bitCount := 0, shifter := 0 }
      (∀ k, s.cfl.state = .command → LinkCommand.ofCode byte = some k → k.paramBytes ≠ 0 → exec (.lclkRisingEdge ldi) s = .next
        { s with inp := pins, cfl := { next with state := .parameters, code := some k, params := [] } })
      ∧ (∀ k, s.cfl.state = .parameters → s.cfl.code = some k → k.paramBytes ≠ s.cfl.params.length + 1 →
        exec (.lclkRisingEdge ldi) s = .next { s with inp := pins, cfl := { next with params := s.cfl.params ++ [byte] } })
      ∧ (s.cfl.state = .result → exec (.lclkRisingEdge ldi) s = .next
        { s with inp := pins, cfl := { next with state := if 1 < s.cfl.out.length then .response else .trailer, out := s.cfl.out.tail } })
      ∧ (s.cfl.state = .response → s.cfl.out.length ≠ 1 → exec (.lclkRisingEdge ldi) s = .next
        { s with inp := pins, cfl := { next with out := s.cfl.out.tail } }))
    ∧ (s.cfl.state = .response → s.cfl.out.length = 1 → s.cfl.report = .plain → exec (.lclkRisingEdge ldi) s = .next
      { s with
        inp := pins
        cfl := { s.cfl with state := .trailer, byteCount := s.cfl.byteCount + 1, bitCount := 0, shifter := 0, out := [] } })
    ∧ ((s.cfl.state = .idle ∨ s.cfl.state = .waitDeselect) → exec (.lclkRisingEdge ldi) s = .next { s with inp := pins })
    ∧ exec .lclkFallingEdge s = .next
      { s with
        inp := { s.inp with lclk := false }
        cfl := { s.cfl with
          ldo :=
            match s.cfl.state with
            | .idle => none
            | .waitDeselect => none
            | .result => some (s.cfl.out.headD false)
            | .response => some (s.cfl.out.headD false)
            | _ => some false } }

/-- A frame delivers its command: after LSEL falls, the bits of the command byte and of its parameter bytes, most significant first, bring the
link to the apply point of that command with those bytes, and until then nothing but the link and its pins changes (R152, R153, R154). -/
def Obligations.FrameDeliversItsCommand : Prop :=
  ∀ (s : State) (k : LinkCommand) (code : Byte) (params : List Byte), Quiet s → s.cfl.state = .idle →
    LinkCommand.ofCode code = some k → params.length = k.paramBytes →
    ∃ u, execAll s (.frameStart :: (bitEdges ((code :: params).flatMap bitsOf)).dropLast) = .next u
      ∧ AtApply u k params (((code :: params).flatMap bitsOf).getLastD false)
      ∧ u = { s with inp := { s.inp with lsel := false, lclk := false, ldi := u.inp.ldi }, cfl := u.cfl }

/-- The result byte and the response bytes are driven on LDO bit by bit, each from the falling edge that follows the rising edge ending the
previous bit, whatever is on LDI (R151, R152, R156). -/
def Obligations.ResponseBitsAreDrivenInOrder : Prop :=
  ∀ (s : State) (ldis : List Bool) (m : Nat), Quiet s → s.cfl.state = .result → s.cfl.bitCount = 0 → s.cfl.out.length = 8 + 8 * m →
    ldis.length < s.cfl.out.length →
    ∃ t, execAll s (ldis.flatMap (fun b => [Instr.lclkFallingEdge, .lclkRisingEdge b]) ++ [.lclkFallingEdge]) = .next t
      ∧ t.cfl.ldo = s.cfl.out[ldis.length]?

/-- The row of a link command is the rising edge that is its apply point. An unlisted code is refused there with UNKNOWN_COMMAND, and while RESTART
is in progress every command but READ_STATUS and READ_FAULT is refused with BUSY, and otherwise a command that names a region above 7 is refused with BAD_REGION before any other
check; a refused command changes nothing but the last result (R20, R153, R154, R155). -/
def Obligations.ApplyPointDecidesTheCommand : Prop :=
  ∀ (s : State) (ldi : Bool), Quiet s →
    (s.cfl.state = .command → s.cfl.bitCount = 7 →
      LinkCommand.ofCode ((s.cfl.shifter <<< 1) ||| (if ldi then 1#8 else 0#8)) = none →
      exec (.unknownCommand ldi) s = .next (commandDone s ldi .unknownCommand)
        ∧ exec (.lclkRisingEdge ldi) s = .next (commandDone s ldi .unknownCommand))
    ∧ ∀ (k : LinkCommand) (params : List Byte), AtApply s k params ldi →
      let row : Instr :=
        match k with
        | .readStatus => .readStatus
        | .readFault => .readFault
        | .readRegion => .readRegion ldi
        | .setWindow => .setWindow ldi
        | .setSurface => .setSurface ldi
        | .setMode => .setMode ldi
        | .setBand => .setBand ldi
        | .setScroll => .setScroll ldi
        | .setCursorWindow => .setCursorWindow ldi
        | .setCursor => .setCursor ldi
        | .revisitBegin => .revisitBegin ldi
        | .revisitEnd => .revisitEnd ldi
        | .enable => .enable ldi
        | .disable => .disable ldi
        | .flush => .flush
        | .setTiming => .setTiming ldi
        | .setMemory => .setMemory ldi
        | .restart => .restart
      exec row s = exec (.lclkRisingEdge ldi) s
        ∧ (s.cmu.restarting = true → k ≠ .readStatus → k ≠ .readFault → exec row s = .next (commandDone s ldi .busy))
        ∧ (s.cmu.restarting = false →
          k ∈ [LinkCommand.readRegion, .setWindow, .setSurface, .setMode, .setBand, .setScroll, .setCursorWindow, .setCursor,
            .revisitBegin, .revisitEnd, .enable, .disable] →
          7 < paramNumber params 0 1 → exec row s = .next (commandDone s ldi .badRegion))

/-- The read commands report the state as it stands and change none of it: READ_STATUS and READ_FAULT in every state of the bridge and with the
last result kept, READ_REGION with the result OK; READ_FAULT leaves its record in the log (R29, R155, R160, R161, R162). -/
def Obligations.ReadCommandsReport : Prop :=
  ∀ (s : State) (params : List Byte) (ldi : Bool), Quiet s →
    (AtApply s .readStatus params true → exec .readStatus s = .next (linkResult s true .ok (statusBytes s) .plain))
    ∧ (AtApply s .readFault params false →
      exec .readFault s = .next (linkResult s false .ok (faultBytes s.flog) (.fault s.flog.records.head?)))
    ∧ (AtApply s .readRegion params ldi → s.cmu.restarting = false → ∀ n : Fin 8, paramNumber params 0 1 = n.val →
      exec (.readRegion ldi) s = .next
        (linkResult { s with cmu := { s.cmu with lastResult := .ok } } ldi .ok (regionBytes n.val s.rt[n]) .plain))

/-- The status response has 8 bytes, the counts of the four entry states sum to 8, and each field can be read from its bits. The region response has 42
bytes, every field of a record in range can be read back from its bytes, and the mode bytes it shows set the same mode fields again. The fault response
has 10 bytes: all 0 for an empty log, and else the kind, origin, flags, addresses and count of the oldest record
(R29, R82, R160, R161, R162, R163, R172). -/
def Obligations.ResponsesReadBack : Prop :=
  (∀ s : State, SettingsOk s → LogOk s → s.mq.length ≤ 13 → countActive s ≤ 1 →
    countFree s + countOpen s + countClosed s + countActive s = 8
    ∧ (statusBytes s).length = 8
    ∧ ∀ b : Nat → Nat, (∀ i, b i = ((statusBytes s)[i]?.getD 0).toNat) →
      b 0 % 8 = s.msq.state.code ∧ b 0 / 8 % 4 = s.hld.state.code
      ∧ (b 0 / 32 % 2 = 1 ↔ s.cmu.flushDone = true) ∧ (b 0 / 64 % 2 = 1 ↔ s.cmu.restarting = true)
      ∧ (b 0 / 128 = 1 ↔ s.flog.overflow = true)
      ∧ b 1 % 16 = countFree s ∧ b 1 / 16 = countOpen s
      ∧ b 2 % 16 = countClosed s ∧ b 2 / 16 % 2 = countActive s
      ∧ (b 2 / 32 % 2 = 1 ↔ s.ral.latch.isSome = true) ∧ (b 2 / 64 = 1 ↔ s.ral.prefetch.isSome = true)
      ∧ b 3 % 16 = s.mq.length ∧ b 3 / 16 = s.flog.records.length
      ∧ b 4 = s.cmu.lastResult.code.toNat
      ∧ b 5 % 32 = s.cmu.settings.memorySize ∧ (b 5 / 32 % 2 = 1 ↔ s.cmu.settings.passThrough = true)
      ∧ (b 5 / 64 = 1 ↔ s.cmu.settings.holdPolicy = .drainFirst)
      ∧ b 6 = s.cmu.settings.idleDelay ∧ b 7 = s.cmu.settings.readyTimeout / 16)
  ∧ (∀ f : Flog, (faultBytes f).length = 10 ∧ (f.records = [] → faultBytes f = List.replicate 10 0)
    ∧ ∀ (r : FaultRecord) (rest : List FaultRecord), f.records = r :: rest → f.records.length ≤ 4 →
      (∀ a ∈ r.hostAddress, a < 16777216) → (∀ w ∈ r.wordAddress, w < 1048576) →
      let field (i k : Nat) : Nat := numberOf (((faultBytes f).drop i).take k)
      (field 0 1 =
        match r.kind with
        | .unclaimed => 1
        | .accessDenied => 2
        | .pixelSplit => 3
        | .writeTimeout => 4
        | .rmwReadTimeout => 5
        | .readTimeout => 6
        | .memoryStuck => 7
        | .droppedStuck => 8)
      ∧ (field 1 1 =
        match r.origin with
        | some (.region n) => n.val
        | some .pass => 8
        | none => 255)
      ∧ (field 2 1 % 2 = 1 ↔ r.direction = .write) ∧ (field 2 1 / 2 % 2 = 1 ↔ r.hostAddress.isSome = true)
      ∧ (field 2 1 / 4 % 2 = 1 ↔ r.wordAddress.isSome = true) ∧ (field 2 1 / 8 % 2 = 1 ↔ r.purpose = some .prefetch)
      ∧ (field 2 1 / 16 = 1 ↔ f.overflow = true) ∧ field 2 1 < 32
      ∧ field 3 3 = r.hostAddress.getD 0 ∧ field 6 3 = r.wordAddress.getD 0 ∧ field 9 1 = f.records.length)
  ∧ ∀ (n : Fin 8) (r : Region), r.inRange → r.cursorOk →
    let b := regionBytes n.val r
    let field (i k : Nat) : Nat := numberOf ((b.drop i).take k)
    b.length = 42 ∧ field 0 1 = n.val ∧ field 1 1 = (if r.enabled then 1 else 0) + (if r.revisit then 2 else 0)
      ∧ field 2 3 = r.windowBase ∧ field 5 3 = r.windowLength ∧ field 8 3 = r.base
      ∧ field 11 2 = r.pitch ∧ field 13 2 = r.width ∧ field 15 2 = r.height
      ∧ Format.ofCode (field 17 1) = some r.format
      ∧ (∀ q : Region, modeOf q (b.getD 18 0) (b.getD 19 0) =
          some { q with kind := r.kind, access := r.access, op := r.op, mirrorX := r.mirrorX, mirrorY := r.mirrorY, scan := r.scan,
                        readAhead := r.readAhead })
      ∧ field 20 2 = r.bandTop ∧ field 22 2 = r.bandRows ∧ field 24 2 = r.scroll
      ∧ field 26 2 = r.x0 ∧ field 28 2 = r.x1 ∧ field 30 2 = r.y0 ∧ field 32 2 = r.y1
      ∧ field 34 2 = r.cursor.x ∧ field 36 2 = r.cursor.y
      ∧ (∀ m ∈ r.mark, field 38 2 = m.x ∧ field 40 2 = m.y) ∧ (r.mark = none → field 38 4 = 0)

/-- The edge at which the master samples the last bit of a fault report completes the READ_FAULT: the reported record leaves the head of the log, the
overflow flag clears if the log is then empty, and the link goes to TRAILER; an empty report leaves the log as it is. READ_FAULT_COMPLETION is that
edge with LDI at its held level, by the model's inference (log entry 12) (R151, R161, R177, R178). -/
def Obligations.FaultReportCompletes : Prop :=
  ∀ (s : State) (reported : Option FaultRecord) (b ldi : Bool), Quiet s → s.cfl.state = .response → s.cfl.out = [b] →
    s.cfl.report = .fault reported →
    let completed (level : Bool) : State :=
      { s with
        inp := { s.inp with lclk := true, ldi := level }
        cfl := { s.cfl with state := .trailer, byteCount := s.cfl.byteCount + 1, bitCount := 0, shifter := 0, out := [], report := .plain }
        flog := if reported.isSome then ⟨s.flog.records.tail, s.flog.overflow && decide (s.flog.records.tail ≠ [])⟩ else s.flog }
    exec .readFaultCompletion s = .next (completed s.inp.ldi) ∧ exec (.lclkRisingEdge ldi) s = .next (completed ldi)
      ∧ ((completed ldi).fltn = true ↔ (completed ldi).flog.records = [] ∧ (completed ldi).flog.overflow = false)

/-- SET_WINDOW, SET_SURFACE, SET_MODE and SET_BAND write their fields together into a DISABLED record when every value is in range, are refused with
REGION_ENABLED for an ENABLED one and with BAD_VALUE otherwise, and change nothing else (R1, R16, R19, R20, R163). -/
def Obligations.DefinitionCommandsWriteTheirFields : Prop :=
  ∀ (s : State) (params : List Byte) (ldi : Bool) (n : Fin 8), Quiet s → s.cmu.restarting = false → paramNumber params 0 1 = n.val →
    let r := s.rt[n]
    (AtApply s .setWindow params ldi →
      let base := paramNumber params 1 3
      let length := paramNumber params 4 3
      exec (.setWindow ldi) s = .next
        (if r.enabled then commandDone s ldi .regionEnabled
        else if base ≤ 16777212 ∧ base % 4 = 0 ∧ length ≤ 4194304 then
          regionWritten s ldi n { r with windowBase := base, windowLength := length }
        else commandDone s ldi .badValue))
    ∧ (AtApply s .setSurface params ldi →
      let base := paramNumber params 1 3
      let pitch := paramNumber params 4 2
      let width := paramNumber params 6 2
      let height := paramNumber params 8 2
      let code := paramNumber params 10 1
      (r.enabled = true → exec (.setSurface ldi) s = .next (commandDone s ldi .regionEnabled))
      ∧ (r.enabled = false →
        ¬ (base ≤ 1048575 ∧ 1 ≤ pitch ∧ pitch ≤ 4096 ∧ 1 ≤ width ∧ width ≤ 4096 ∧ 1 ≤ height ∧ height ≤ 4096 ∧ code ≤ 4) →
        exec (.setSurface ldi) s = .next (commandDone s ldi .badValue))
      ∧ ∀ f : Format, r.enabled = false → f.code = code →
        base ≤ 1048575 ∧ 1 ≤ pitch ∧ pitch ≤ 4096 ∧ 1 ≤ width ∧ width ≤ 4096 ∧ 1 ≤ height ∧ height ≤ 4096 →
        exec (.setSurface ldi) s = .next
          (regionWritten s ldi n { r with base := base, pitch := pitch, width := width, height := height, format := f }))
    ∧ (AtApply s .setMode params ldi →
      let a := params.getD 1 0
      let b := params.getD 2 0
      (r.enabled = true → exec (.setMode ldi) s = .next (commandDone s ldi .regionEnabled))
      ∧ (r.enabled = false → (a >>> 5 ≠ 0 ∨ (a >>> 1) &&& 3#8 = 3#8 ∨ b >>> 4 ≠ 0) →
        exec (.setMode ldi) s = .next (commandDone s ldi .badValue))
      ∧ ∀ (access : Access) (op : RasterOp), r.enabled = false → a >>> 5 = 0 → b >>> 4 = 0 → access.code = ((a >>> 1) &&& 3#8).toNat →
        op.code = ((a >>> 3) &&& 3#8).toNat →
        exec (.setMode ldi) s = .next
          (regionWritten s ldi n
            { r with
              kind := if a.getLsbD 0 then .stream else .mapped, access := access, op := op, mirrorX := b.getLsbD 0,
              mirrorY := b.getLsbD 1, scan := if b.getLsbD 2 then .columnFirst else .rowFirst, readAhead := b.getLsbD 3 }))
    ∧ (AtApply s .setBand params ldi →
      let top := paramNumber params 1 2
      let rows := paramNumber params 3 2
      exec (.setBand ldi) s = .next
        (if r.enabled then commandDone s ldi .regionEnabled
        else if top ≤ 4095 ∧ rows ≠ 1 ∧ rows ≤ 4096 then regionWritten s ldi n { r with bandTop := top, bandRows := rows }
        else commandDone s ldi .badValue))

/-- SET_SCROLL writes the offset when it is in range and, for an ENABLED region, agrees with the band, and SET_CURSOR_WINDOW writes the window, puts
the cursor at its first position and ends revisit mode; each is refused as R20 orders otherwise, and changes nothing else
(R19, R20, R21, R22, R46, R74). -/
def Obligations.ScrollAndCursorWindowAreSet : Prop :=
  ∀ (s : State) (params : List Byte) (ldi : Bool) (n : Fin 8), Quiet s → s.cmu.restarting = false → paramNumber params 0 1 = n.val →
    let r := s.rt[n]
    (AtApply s .setScroll params ldi →
      let offset := paramNumber params 1 2
      exec (.setScroll ldi) s = .next
        (if 4095 < offset then commandDone s ldi .badValue
        else if r.enabled = true ∧ ¬ (if r.bandRows = 0 then offset = 0 else offset < r.bandRows) then commandDone s ldi .badValue
        else regionWritten s ldi n { r with scroll := offset }))
    ∧ (AtApply s .setCursorWindow params ldi →
      let x0 := paramNumber params 1 2
      let x1 := paramNumber params 3 2
      let y0 := paramNumber params 5 2
      let y1 := paramNumber params 7 2
      exec (.setCursorWindow ldi) s = .next
        (if r.kind = .mapped then commandDone s ldi .wrongKind
        else if ¬ (x0 ≤ x1 ∧ x1 ≤ 4095 ∧ y0 ≤ y1 ∧ y1 ≤ 4095) then commandDone s ldi .badValue
        else if r.enabled = true ∧ ¬ (x1 < r.width ∧ y1 < r.height) then commandDone s ldi .badValue
        else regionWritten s ldi n
          { r with x0 := x0, x1 := x1, y0 := y0, y1 := y1, cursor := ⟨x0, y0⟩, revisit := false, mark := none }))

/-- SET_CURSOR to a STREAM region writes the cursor when the position lies in the cursor window the record holds, and is refused with BAD_VALUE
otherwise and with WRONG_KIND for a MAPPED region; the mark, revisit mode and all else stay as they are (R75). -/
def Obligations.CursorIsSetInsideItsWindow : Prop :=
  ∀ (s : State) (params : List Byte) (ldi : Bool) (n : Fin 8), Quiet s → s.cmu.restarting = false → paramNumber params 0 1 = n.val →
    AtApply s .setCursor params ldi →
    let r := s.rt[n]
    let cx := paramNumber params 1 2
    let cy := paramNumber params 3 2
    (r.kind = .mapped → exec (.setCursor ldi) s = .next (commandDone s ldi .wrongKind))
    ∧ (r.kind = .stream → ¬ (cx ≤ 4095 ∧ cy ≤ 4095 ∧ r.x0 ≤ cx ∧ cx ≤ r.x1 ∧ r.y0 ≤ cy ∧ cy ≤ r.y1) →
      exec (.setCursor ldi) s = .next (commandDone s ldi .badValue))
    ∧ (r.kind = .stream → cx ≤ 4095 ∧ cy ≤ 4095 ∧ r.x0 ≤ cx ∧ cx ≤ r.x1 ∧ r.y0 ≤ cy ∧ cy ≤ r.y1 →
      exec (.setCursor ldi) s = .next (regionWritten s ldi n { r with cursor := ⟨cx, cy⟩ }))

/-- REVISIT_BEGIN sets the mark to the cursor and turns revisit mode on; REVISIT_END sets the cursor to the mark, discards it and turns revisit mode
off; each is refused with WRONG_KIND or WRONG_STATE as R19 says, and changes nothing else (R19, R20, R76, R77). -/
def Obligations.RevisitModeBeginsAndEnds : Prop :=
  ∀ (s : State) (params : List Byte) (ldi : Bool) (n : Fin 8), Quiet s → s.cmu.restarting = false → paramNumber params 0 1 = n.val →
    let r := s.rt[n]
    (AtApply s .revisitBegin params ldi → exec (.revisitBegin ldi) s = .next
      (if r.kind = .mapped then commandDone s ldi .wrongKind
      else if r.enabled = true ∧ r.revisit = false then regionWritten s ldi n { r with revisit := true, mark := some r.cursor }
      else commandDone s ldi .wrongState))
    ∧ (AtApply s .revisitEnd params ldi →
      (r.kind = .mapped → exec (.revisitEnd ldi) s = .next (commandDone s ldi .wrongKind))
      ∧ (r.kind = .stream → ¬ (r.enabled = true ∧ r.revisit = true) →
        exec (.revisitEnd ldi) s = .next (commandDone s ldi .wrongState))
      ∧ ∀ m : Position, r.kind = .stream → r.enabled = true → r.revisit = true → r.mark = some m →
        exec (.revisitEnd ldi) s = .next (regionWritten s ldi n { r with cursor := m, revisit := false, mark := none }))

/-- ENABLE takes a DISABLED region that passes the seven checks of R25 to ENABLED and is refused with BAD_GEOMETRY or REGION_ENABLED otherwise;
DISABLE takes an ENABLED region to DISABLED with revisit mode ended and the mark gone, and gives OK without a change otherwise; nothing else
changes (R19, R24, R25, R27). -/
def Obligations.RegionsAreEnabledAndDisabled : Prop :=
  ∀ (s : State) (params : List Byte) (ldi : Bool) (n : Fin 8), Quiet s → s.cmu.restarting = false → paramNumber params 0 1 = n.val →
    let r := s.rt[n]
    let checks : Prop :=
      (1 ≤ r.windowLength ∧ r.windowBase + 4 * r.windowLength ≤ 16777216)
        ∧ r.width ≤ r.pitch * r.format.ppw
        ∧ r.base + r.height * r.pitch ≤ 65536 * s.cmu.settings.memorySize
        ∧ (r.kind = .mapped → r.windowLength = (r.width * r.height * r.format.hostBytes + 3) / 4)
        ∧ (r.bandRows = 0 ∨ r.bandTop + r.bandRows ≤ r.height)
        ∧ (if r.bandRows = 0 then r.scroll = 0 else r.scroll < r.bandRows)
        ∧ (r.kind = .stream → (r.x1 < r.width ∧ r.y1 < r.height)
          ∧ r.x0 ≤ r.cursor.x ∧ r.cursor.x ≤ r.x1 ∧ r.y0 ≤ r.cursor.y ∧ r.cursor.y ≤ r.y1)
    (AtApply s .enable params ldi →
      (r.enabled = true → exec (.enable ldi) s = .next (commandDone s ldi .regionEnabled))
      ∧ (r.enabled = false → ¬ checks → exec (.enable ldi) s = .next (commandDone s ldi .badGeometry))
      ∧ (r.enabled = false → checks → exec (.enable ldi) s = .next (regionWritten s ldi n { r with enabled := true })))
    ∧ (AtApply s .disable params ldi → exec (.disable ldi) s = .next
      (if r.enabled then regionWritten s ldi n { r with enabled := false, revisit := false, mark := none } else commandDone s ldi .ok))

/-- SET_TIMING writes the idle close delay and the ready timeout together, whatever the state of the regions, the sequencer or the hold, and is refused
with BAD_VALUE for a ready timeout outside 16..4095; nothing else changes (R166). -/
def Obligations.TimingIsSet : Prop :=
  ∀ (s : State) (params : List Byte) (ldi : Bool), Quiet s → s.cmu.restarting = false → AtApply s .setTiming params ldi →
    let delay := paramNumber params 0 1
    let timeout := paramNumber params 1 2
    exec (.setTiming ldi) s = .next
      (if timeout < 16 ∨ 4095 < timeout then commandDone s ldi .badValue
      else commandDone
        { s with cmu := { s.cmu with settings := { s.cmu.settings with idleDelay := delay, readyTimeout := timeout } } } ldi .ok)

/-- SET_MEMORY is refused with IN_USE while any region is ENABLED, then with BAD_VALUE for a value out of range, and otherwise writes its three settings
together; entries, items and a hold request already taken stay as they are (R167). -/
def Obligations.MemorySettingsAreSet : Prop :=
  ∀ (s : State) (params : List Byte) (ldi : Bool), Quiet s → s.cmu.restarting = false → AtApply s .setMemory params ldi →
    let size := paramNumber params 0 1
    let pass := paramNumber params 1 1
    let policy := paramNumber params 2 1
    exec (.setMemory ldi) s = .next
      (if ∃ n : Fin 8, (s.rt[n]).enabled = true then commandDone s ldi .inUse
      else if size < 1 ∨ 16 < size ∨ 1 < pass ∨ 1 < policy then commandDone s ldi .badValue
      else commandDone
        { s with
          cmu := { s.cmu with
            settings := { s.cmu.settings with
              memorySize := size, passThrough := decide (pass = 1), holdPolicy := if policy = 1 then .drainFirst else .immediate } } }
        ldi .ok)

/-- FLUSH closes every OPEN entry in opened order, places the flush mark at the tail and clears FLUSH_DONE unless the queue is then empty; FLUSH_DONE is
set when the mark has been reached; nothing else changes (R92, R97, R111, R168). -/
def Obligations.FlushMarksTheQueue : Prop :=
  ∀ (s : State) (params : List Byte),
    (Quiet s → s.cmu.restarting = false → AtApply s .flush params false →
      ∃ u, ClosedAll s u
        ∧ u = { s with mb := u.mb, mq := u.mq, cmu := { s.cmu with flushMark := some u.mq.length, flushDone := decide (u.mq = []) } }
        ∧ exec .flush s = .next (commandDone u false .ok))
    ∧ (s.inp.rstn = true → s.cmu.flushDone = false → s.cmu.flushMark = some 0 →
      exec .flushDone s = .next { s with cmu := { s.cmu with flushDone := true } })

/-- RESTART closes every OPEN entry in opened order, invalidates the latch, drops a pending prefetch and sets RESTARTING. It ends when every entry is
FREE, the queue is empty and no access is in flight: the table, the settings, the latch, FLUSH_DONE, the mark and the last result take their reset values
and RESTARTING clears, while the log, the hold and the MSQ are kept; a deferred request is then taken: with its lanes all low it is answered, inside
the default aperture it is claimed by PASS and goes on as the same request seen in IDLE, and beyond it it is unclaimed. Nothing else changes in these
rows: an end of RESTART that is possible at its apply point, which R170 places in that event, is the next row by the model's choice (log entry 2) (R34, R51, R52, R54, R92, R99, R139, R169, R170). -/
def Obligations.RestartBeginsAndEnds : Prop :=
  (∀ (s : State) (params : List Byte), Quiet s → s.cmu.restarting = false → AtApply s .restart params true →
    ∃ u, ClosedAll s u
      ∧ u = { s with
        mb := u.mb
        mq := u.mq
        ral := ⟨none, s.ral.prefetch.map fun q => ⟨q.word, true⟩⟩
        cmu := { s.cmu with restarting := true } }
      ∧ exec .restart s = .next (commandDone u true .ok))
  ∧ ∀ s : State, s.inp.rstn = true → s.cmu.restarting = true → (∀ i : Fin 8, s.mb[i] = none) → s.mq = [] →
    s.hpc.state ≠ .placing → s.hpc.state ≠ .gathering →
    let u : State :=
      { s with
        rt := Vector.replicate 8 Region.reset
        cmu := ⟨⟨16, true, .immediate, 4, 1024⟩, .ok, true, none, false⟩
        ral := ⟨none, none⟩ }
    let l := s.inp.lines
    (s.hpc.state ≠ .deferred → exec .restartEnd s = .next u)
    ∧ (s.hpc.state = .deferred → s.inp.hreq = true → l.hlane = 0 →
      exec .restartEnd s = .next { u with hpc := ⟨.answered, s.hpc.access, true, false, 0⟩ })
    ∧ (∀ x, s.hpc = ⟨.deferred, x, false, false, 0⟩ → s.inp.hreq = true → l.hlane ≠ 0 → 4 * l.ha.toNat + 3 < 2097152 →
      let v : State := { u with hpc := ⟨.idle, x, false, false, 0⟩ }
      Quiet v → claimantOf v (4 * l.ha.toNat) = some .pass
        ∧ exec .restartEnd s = exec (.hostRequest l.hwr l.ha l.hlane l.hwd) v)
    ∧ (s.hpc.state = .deferred → s.inp.hreq = true → l.hlane ≠ 0 → 2097152 ≤ 4 * l.ha.toNat + 3 →
      exec .restartEnd s = .next
        { u with
          hpc := ⟨.answered,
            some ⟨if l.hwr then .write else .read, 4 * l.ha.toNat, l.hlane, if l.hwr then l.hwd else 0, none, none, [], 0⟩, true, true, 0⟩
          flog := logged s.flog ⟨.unclaimed, none, if l.hwr then .write else .read, some (4 * l.ha.toNat), none, none⟩ })
end

