-- ==== Sys2Proof/Laws/State.lean ====
section
/-! SUPPORT. The fields of the state after each update of it that has a name: one lemma a field, true by `rfl`. -/

namespace Sys2Proof.Machine

@[simp] theorem recordFault_inp (s : State) (r : FaultRecord) : (recordFault s r).inp = s.inp := rfl
@[simp] theorem recordFault_hpc (s : State) (r : FaultRecord) : (recordFault s r).hpc = s.hpc := rfl
@[simp] theorem recordFault_rt (s : State) (r : FaultRecord) : (recordFault s r).rt = s.rt := rfl
@[simp] theorem recordFault_mb (s : State) (r : FaultRecord) : (recordFault s r).mb = s.mb := rfl
@[simp] theorem recordFault_mq (s : State) (r : FaultRecord) : (recordFault s r).mq = s.mq := rfl
@[simp] theorem recordFault_msq (s : State) (r : FaultRecord) : (recordFault s r).msq = s.msq := rfl
@[simp] theorem recordFault_rg (s : State) (r : FaultRecord) : (recordFault s r).rg = s.rg := rfl
@[simp] theorem recordFault_ral (s : State) (r : FaultRecord) : (recordFault s r).ral = s.ral := rfl
@[simp] theorem recordFault_hld (s : State) (r : FaultRecord) : (recordFault s r).hld = s.hld := rfl
@[simp] theorem recordFault_cfl (s : State) (r : FaultRecord) : (recordFault s r).cfl = s.cfl := rfl
@[simp] theorem recordFault_cmu (s : State) (r : FaultRecord) : (recordFault s r).cmu = s.cmu := rfl
@[simp] theorem recordFault_flog (s : State) (r : FaultRecord) : (recordFault s r).flog = s.flog.store r := rfl
@[simp] theorem recordFault_pending (s : State) (r : FaultRecord) : (recordFault s r).pending = s.pending := rfl

@[simp] theorem appendItem_inp (s : State) (x : Item) : (appendItem s x).inp = s.inp := rfl
@[simp] theorem appendItem_hpc (s : State) (x : Item) : (appendItem s x).hpc = s.hpc := rfl
@[simp] theorem appendItem_rt (s : State) (x : Item) : (appendItem s x).rt = s.rt := rfl
@[simp] theorem appendItem_mb (s : State) (x : Item) : (appendItem s x).mb = s.mb := rfl
@[simp] theorem appendItem_mq (s : State) (x : Item) : (appendItem s x).mq = s.mq ++ [x] := rfl
@[simp] theorem appendItem_msq (s : State) (x : Item) : (appendItem s x).msq = s.msq := rfl
@[simp] theorem appendItem_rg (s : State) (x : Item) : (appendItem s x).rg = s.rg := rfl
@[simp] theorem appendItem_ral (s : State) (x : Item) : (appendItem s x).ral = s.ral := rfl
@[simp] theorem appendItem_hld (s : State) (x : Item) : (appendItem s x).hld = s.hld := rfl
@[simp] theorem appendItem_cfl (s : State) (x : Item) : (appendItem s x).cfl = s.cfl := rfl
@[simp] theorem appendItem_cmu (s : State) (x : Item) : (appendItem s x).cmu = s.cmu := rfl
@[simp] theorem appendItem_flog (s : State) (x : Item) : (appendItem s x).flog = s.flog := rfl
@[simp] theorem appendItem_pending (s : State) (x : Item) : (appendItem s x).pending = s.pending := rfl

@[simp] theorem freeEntry_inp (s : State) (i : Fin 8) : (freeEntry s i).inp = s.inp := rfl
@[simp] theorem freeEntry_hpc (s : State) (i : Fin 8) : (freeEntry s i).hpc = s.hpc := rfl
@[simp] theorem freeEntry_rt (s : State) (i : Fin 8) : (freeEntry s i).rt = s.rt := rfl
@[simp] theorem freeEntry_mb (s : State) (i : Fin 8) : (freeEntry s i).mb = s.mb.set i none := rfl
@[simp] theorem freeEntry_mq (s : State) (i : Fin 8) : (freeEntry s i).mq = s.mq := rfl
@[simp] theorem freeEntry_msq (s : State) (i : Fin 8) : (freeEntry s i).msq = s.msq := rfl
@[simp] theorem freeEntry_rg (s : State) (i : Fin 8) : (freeEntry s i).rg = s.rg := rfl
@[simp] theorem freeEntry_ral (s : State) (i : Fin 8) : (freeEntry s i).ral = s.ral := rfl
@[simp] theorem freeEntry_hld (s : State) (i : Fin 8) : (freeEntry s i).hld = s.hld := rfl
@[simp] theorem freeEntry_cfl (s : State) (i : Fin 8) : (freeEntry s i).cfl = s.cfl := rfl
@[simp] theorem freeEntry_cmu (s : State) (i : Fin 8) : (freeEntry s i).cmu = s.cmu := rfl
@[simp] theorem freeEntry_flog (s : State) (i : Fin 8) : (freeEntry s i).flog = s.flog := rfl
@[simp] theorem freeEntry_pending (s : State) (i : Fin 8) : (freeEntry s i).pending = s.pending := rfl

@[simp] theorem removeHead_inp (s : State) : (removeHead s).inp = s.inp := rfl
@[simp] theorem removeHead_hpc (s : State) : (removeHead s).hpc = s.hpc := rfl
@[simp] theorem removeHead_rt (s : State) : (removeHead s).rt = s.rt := rfl
@[simp] theorem removeHead_mb (s : State) : (removeHead s).mb = s.mb := rfl
@[simp] theorem removeHead_mq (s : State) : (removeHead s).mq = s.mq.tail := rfl
@[simp] theorem removeHead_msq (s : State) : (removeHead s).msq = s.msq := rfl
@[simp] theorem removeHead_rg (s : State) : (removeHead s).rg = s.rg := rfl
@[simp] theorem removeHead_ral (s : State) : (removeHead s).ral = s.ral := rfl
@[simp] theorem removeHead_hld (s : State) : (removeHead s).hld = { s.hld with drainMark := lowerMark s.hld.drainMark } := rfl
@[simp] theorem removeHead_cfl (s : State) : (removeHead s).cfl = s.cfl := rfl
@[simp] theorem removeHead_cmu (s : State) : (removeHead s).cmu = { s.cmu with flushMark := lowerMark s.cmu.flushMark } := rfl
@[simp] theorem removeHead_flog (s : State) : (removeHead s).flog = s.flog := rfl
@[simp] theorem removeHead_pending (s : State) : (removeHead s).pending = s.pending := rfl

@[simp] theorem resolveGather_inp (s : State) (k : Nat) (w : WordState) : (resolveGather s k w).inp = s.inp := rfl
@[simp] theorem resolveGather_hpc (s : State) (k : Nat) (w : WordState) : (resolveGather s k w).hpc = s.hpc := rfl
@[simp] theorem resolveGather_rt (s : State) (k : Nat) (w : WordState) : (resolveGather s k w).rt = s.rt := rfl
@[simp] theorem resolveGather_mb (s : State) (k : Nat) (w : WordState) : (resolveGather s k w).mb = s.mb := rfl
@[simp] theorem resolveGather_mq (s : State) (k : Nat) (w : WordState) : (resolveGather s k w).mq = s.mq := rfl
@[simp] theorem resolveGather_msq (s : State) (k : Nat) (w : WordState) : (resolveGather s k w).msq = s.msq := rfl
@[simp] theorem resolveGather_rg (s : State) (k : Nat) (w : WordState) : (resolveGather s k w).rg = s.rg.map fun g => g.resolve k w := rfl
@[simp] theorem resolveGather_ral (s : State) (k : Nat) (w : WordState) : (resolveGather s k w).ral = s.ral := rfl
@[simp] theorem resolveGather_hld (s : State) (k : Nat) (w : WordState) : (resolveGather s k w).hld = s.hld := rfl
@[simp] theorem resolveGather_cfl (s : State) (k : Nat) (w : WordState) : (resolveGather s k w).cfl = s.cfl := rfl
@[simp] theorem resolveGather_cmu (s : State) (k : Nat) (w : WordState) : (resolveGather s k w).cmu = s.cmu := rfl
@[simp] theorem resolveGather_flog (s : State) (k : Nat) (w : WordState) : (resolveGather s k w).flog = s.flog := rfl
@[simp] theorem resolveGather_pending (s : State) (k : Nat) (w : WordState) : (resolveGather s k w).pending = s.pending := rfl

@[simp] theorem beginOp_inp (s : State) (st : MsqState) (op : Operation) (dir : Direction) (mwe : Bool) (mbs : BitVec 2) (md : Option Word) :
    (beginOp s st op dir mwe mbs md).inp = s.inp := rfl
@[simp] theorem beginOp_hpc (s : State) (st : MsqState) (op : Operation) (dir : Direction) (mwe : Bool) (mbs : BitVec 2) (md : Option Word) :
    (beginOp s st op dir mwe mbs md).hpc = s.hpc := rfl
@[simp] theorem beginOp_rt (s : State) (st : MsqState) (op : Operation) (dir : Direction) (mwe : Bool) (mbs : BitVec 2) (md : Option Word) :
    (beginOp s st op dir mwe mbs md).rt = s.rt := rfl
@[simp] theorem beginOp_mb (s : State) (st : MsqState) (op : Operation) (dir : Direction) (mwe : Bool) (mbs : BitVec 2) (md : Option Word) :
    (beginOp s st op dir mwe mbs md).mb = s.mb := rfl
@[simp] theorem beginOp_mq (s : State) (st : MsqState) (op : Operation) (dir : Direction) (mwe : Bool) (mbs : BitVec 2) (md : Option Word) :
    (beginOp s st op dir mwe mbs md).mq = s.mq := rfl
@[simp] theorem beginOp_msq (s : State) (st : MsqState) (op : Operation) (dir : Direction) (mwe : Bool) (mbs : BitVec 2) (md : Option Word) :
    (beginOp s st op dir mwe mbs md).msq = ⟨st, some op, some s.cmu.settings.readyTimeout, some (op.word, dir), s.msq.stuckOf, .cycle ⟨BitVec.ofNat 20 op.word, mwe, mbs, md⟩⟩ := rfl
@[simp] theorem beginOp_rg (s : State) (st : MsqState) (op : Operation) (dir : Direction) (mwe : Bool) (mbs : BitVec 2) (md : Option Word) :
    (beginOp s st op dir mwe mbs md).rg = s.rg := rfl
@[simp] theorem beginOp_ral (s : State) (st : MsqState) (op : Operation) (dir : Direction) (mwe : Bool) (mbs : BitVec 2) (md : Option Word) :
    (beginOp s st op dir mwe mbs md).ral = s.ral := rfl
@[simp] theorem beginOp_hld (s : State) (st : MsqState) (op : Operation) (dir : Direction) (mwe : Bool) (mbs : BitVec 2) (md : Option Word) :
    (beginOp s st op dir mwe mbs md).hld = s.hld := rfl
@[simp] theorem beginOp_cfl (s : State) (st : MsqState) (op : Operation) (dir : Direction) (mwe : Bool) (mbs : BitVec 2) (md : Option Word) :
    (beginOp s st op dir mwe mbs md).cfl = s.cfl := rfl
@[simp] theorem beginOp_cmu (s : State) (st : MsqState) (op : Operation) (dir : Direction) (mwe : Bool) (mbs : BitVec 2) (md : Option Word) :
    (beginOp s st op dir mwe mbs md).cmu = s.cmu := rfl
@[simp] theorem beginOp_flog (s : State) (st : MsqState) (op : Operation) (dir : Direction) (mwe : Bool) (mbs : BitVec 2) (md : Option Word) :
    (beginOp s st op dir mwe mbs md).flog = s.flog := rfl
@[simp] theorem beginOp_pending (s : State) (st : MsqState) (op : Operation) (dir : Direction) (mwe : Bool) (mbs : BitVec 2) (md : Option Word) :
    (beginOp s st op dir mwe mbs md).pending = s.pending := rfl

@[simp] theorem completeOp_inp (s : State) (op : Operation) : (completeOp s op).inp = { s.inp with mrdy := true } := rfl
@[simp] theorem completeOp_hpc (s : State) (op : Operation) : (completeOp s op).hpc = s.hpc := rfl
@[simp] theorem completeOp_rt (s : State) (op : Operation) : (completeOp s op).rt = s.rt := rfl
@[simp] theorem completeOp_mb (s : State) (op : Operation) : (completeOp s op).mb = s.mb := rfl
@[simp] theorem completeOp_mq (s : State) (op : Operation) : (completeOp s op).mq = s.mq := rfl
@[simp] theorem completeOp_msq (s : State) (op : Operation) :
    (completeOp s op).msq = { s.msq with op := some { op with step := .release }, timer := some s.cmu.settings.readyTimeout, port := .deselected } := rfl
@[simp] theorem completeOp_rg (s : State) (op : Operation) : (completeOp s op).rg = s.rg := rfl
@[simp] theorem completeOp_ral (s : State) (op : Operation) : (completeOp s op).ral = s.ral := rfl
@[simp] theorem completeOp_hld (s : State) (op : Operation) : (completeOp s op).hld = s.hld := rfl
@[simp] theorem completeOp_cfl (s : State) (op : Operation) : (completeOp s op).cfl = s.cfl := rfl
@[simp] theorem completeOp_cmu (s : State) (op : Operation) : (completeOp s op).cmu = s.cmu := rfl
@[simp] theorem completeOp_flog (s : State) (op : Operation) : (completeOp s op).flog = s.flog := rfl
@[simp] theorem completeOp_pending (s : State) (op : Operation) : (completeOp s op).pending = s.pending := rfl

@[simp] theorem msqIdle_inp (s : State) : (msqIdle s).inp = s.inp := rfl
@[simp] theorem msqIdle_hpc (s : State) : (msqIdle s).hpc = s.hpc := rfl
@[simp] theorem msqIdle_rt (s : State) : (msqIdle s).rt = s.rt := rfl
@[simp] theorem msqIdle_mb (s : State) : (msqIdle s).mb = s.mb := rfl
@[simp] theorem msqIdle_mq (s : State) : (msqIdle s).mq = s.mq := rfl
@[simp] theorem msqIdle_msq (s : State) : (msqIdle s).msq = ⟨.idle, none, none, s.msq.last, none, .deselected⟩ := rfl
@[simp] theorem msqIdle_rg (s : State) : (msqIdle s).rg = s.rg := rfl
@[simp] theorem msqIdle_ral (s : State) : (msqIdle s).ral = s.ral := rfl
@[simp] theorem msqIdle_hld (s : State) : (msqIdle s).hld = s.hld := rfl
@[simp] theorem msqIdle_cfl (s : State) : (msqIdle s).cfl = s.cfl := rfl
@[simp] theorem msqIdle_cmu (s : State) : (msqIdle s).cmu = s.cmu := rfl
@[simp] theorem msqIdle_flog (s : State) : (msqIdle s).flog = s.flog := rfl
@[simp] theorem msqIdle_pending (s : State) : (msqIdle s).pending = s.pending := rfl

@[simp] theorem msqStuck_inp (s : State) : (msqStuck s).inp = s.inp := rfl
@[simp] theorem msqStuck_hpc (s : State) : (msqStuck s).hpc = s.hpc := rfl
@[simp] theorem msqStuck_rt (s : State) : (msqStuck s).rt = s.rt := rfl
@[simp] theorem msqStuck_mb (s : State) : (msqStuck s).mb = s.mb := rfl
@[simp] theorem msqStuck_mq (s : State) : (msqStuck s).mq = s.mq := rfl
@[simp] theorem msqStuck_msq (s : State) : (msqStuck s).msq = ⟨.stuck, none, none, s.msq.last, none, .deselected⟩ := rfl
@[simp] theorem msqStuck_rg (s : State) : (msqStuck s).rg = s.rg := rfl
@[simp] theorem msqStuck_ral (s : State) : (msqStuck s).ral = s.ral := rfl
@[simp] theorem msqStuck_hld (s : State) : (msqStuck s).hld = s.hld := rfl
@[simp] theorem msqStuck_cfl (s : State) : (msqStuck s).cfl = s.cfl := rfl
@[simp] theorem msqStuck_cmu (s : State) : (msqStuck s).cmu = s.cmu := rfl
@[simp] theorem msqStuck_flog (s : State) : (msqStuck s).flog = s.flog := rfl
@[simp] theorem msqStuck_pending (s : State) : (msqStuck s).pending = s.pending := rfl

@[simp] theorem msqRecover_inp (s : State) (of : Option (Nat × Direction)) : (msqRecover s of).inp = s.inp := rfl
@[simp] theorem msqRecover_hpc (s : State) (of : Option (Nat × Direction)) : (msqRecover s of).hpc = s.hpc := rfl
@[simp] theorem msqRecover_rt (s : State) (of : Option (Nat × Direction)) : (msqRecover s of).rt = s.rt := rfl
@[simp] theorem msqRecover_mb (s : State) (of : Option (Nat × Direction)) : (msqRecover s of).mb = s.mb := rfl
@[simp] theorem msqRecover_mq (s : State) (of : Option (Nat × Direction)) : (msqRecover s of).mq = s.mq := rfl
@[simp] theorem msqRecover_msq (s : State) (of : Option (Nat × Direction)) :
    (msqRecover s of).msq = ⟨.recover, none, some s.cmu.settings.readyTimeout, s.msq.last, of, .deselected⟩ := rfl
@[simp] theorem msqRecover_rg (s : State) (of : Option (Nat × Direction)) : (msqRecover s of).rg = s.rg := rfl
@[simp] theorem msqRecover_ral (s : State) (of : Option (Nat × Direction)) : (msqRecover s of).ral = s.ral := rfl
@[simp] theorem msqRecover_hld (s : State) (of : Option (Nat × Direction)) : (msqRecover s of).hld = s.hld := rfl
@[simp] theorem msqRecover_cfl (s : State) (of : Option (Nat × Direction)) : (msqRecover s of).cfl = s.cfl := rfl
@[simp] theorem msqRecover_cmu (s : State) (of : Option (Nat × Direction)) : (msqRecover s of).cmu = s.cmu := rfl
@[simp] theorem msqRecover_flog (s : State) (of : Option (Nat × Direction)) : (msqRecover s of).flog = s.flog := rfl
@[simp] theorem msqRecover_pending (s : State) (of : Option (Nat × Direction)) : (msqRecover s of).pending = s.pending := rfl

@[simp] theorem seeMrdy_inp (s : State) (level : Bool) : (seeMrdy s level).inp = { s.inp with mrdy := level } := rfl
@[simp] theorem seeMrdy_hpc (s : State) (level : Bool) : (seeMrdy s level).hpc = s.hpc := rfl
@[simp] theorem seeMrdy_rt (s : State) (level : Bool) : (seeMrdy s level).rt = s.rt := rfl
@[simp] theorem seeMrdy_mb (s : State) (level : Bool) : (seeMrdy s level).mb = s.mb := rfl
@[simp] theorem seeMrdy_mq (s : State) (level : Bool) : (seeMrdy s level).mq = s.mq := rfl
@[simp] theorem seeMrdy_msq (s : State) (level : Bool) : (seeMrdy s level).msq = s.msq := rfl
@[simp] theorem seeMrdy_rg (s : State) (level : Bool) : (seeMrdy s level).rg = s.rg := rfl
@[simp] theorem seeMrdy_ral (s : State) (level : Bool) : (seeMrdy s level).ral = s.ral := rfl
@[simp] theorem seeMrdy_hld (s : State) (level : Bool) : (seeMrdy s level).hld = s.hld := rfl
@[simp] theorem seeMrdy_cfl (s : State) (level : Bool) : (seeMrdy s level).cfl = s.cfl := rfl
@[simp] theorem seeMrdy_cmu (s : State) (level : Bool) : (seeMrdy s level).cmu = s.cmu := rfl
@[simp] theorem seeMrdy_flog (s : State) (level : Bool) : (seeMrdy s level).flog = s.flog := rfl
@[simp] theorem seeMrdy_pending (s : State) (level : Bool) : (seeMrdy s level).pending = s.pending := rfl

@[simp] theorem sampleMd_inp (s : State) (md : Word) : (sampleMd s md).inp = { s.inp with md := md } := rfl
@[simp] theorem sampleMd_hpc (s : State) (md : Word) : (sampleMd s md).hpc = s.hpc := rfl
@[simp] theorem sampleMd_rt (s : State) (md : Word) : (sampleMd s md).rt = s.rt := rfl
@[simp] theorem sampleMd_mb (s : State) (md : Word) : (sampleMd s md).mb = s.mb := rfl
@[simp] theorem sampleMd_mq (s : State) (md : Word) : (sampleMd s md).mq = s.mq := rfl
@[simp] theorem sampleMd_msq (s : State) (md : Word) : (sampleMd s md).msq = s.msq := rfl
@[simp] theorem sampleMd_rg (s : State) (md : Word) : (sampleMd s md).rg = s.rg := rfl
@[simp] theorem sampleMd_ral (s : State) (md : Word) : (sampleMd s md).ral = s.ral := rfl
@[simp] theorem sampleMd_hld (s : State) (md : Word) : (sampleMd s md).hld = s.hld := rfl
@[simp] theorem sampleMd_cfl (s : State) (md : Word) : (sampleMd s md).cfl = s.cfl := rfl
@[simp] theorem sampleMd_cmu (s : State) (md : Word) : (sampleMd s md).cmu = s.cmu := rfl
@[simp] theorem sampleMd_flog (s : State) (md : Word) : (sampleMd s md).flog = s.flog := rfl
@[simp] theorem sampleMd_pending (s : State) (md : Word) : (sampleMd s md).pending = s.pending := rfl

@[simp] theorem endAnswer_inp (s : State) : (endAnswer s).inp = s.inp := rfl
@[simp] theorem endAnswer_hpc (s : State) : (endAnswer s).hpc = ⟨s.hpc.state, s.hpc.access, false, false, 0⟩ := rfl
@[simp] theorem endAnswer_rt (s : State) : (endAnswer s).rt = s.rt := rfl
@[simp] theorem endAnswer_mb (s : State) : (endAnswer s).mb = s.mb := rfl
@[simp] theorem endAnswer_mq (s : State) : (endAnswer s).mq = s.mq := rfl
@[simp] theorem endAnswer_msq (s : State) : (endAnswer s).msq = s.msq := rfl
@[simp] theorem endAnswer_rg (s : State) : (endAnswer s).rg = s.rg := rfl
@[simp] theorem endAnswer_ral (s : State) : (endAnswer s).ral = s.ral := rfl
@[simp] theorem endAnswer_hld (s : State) : (endAnswer s).hld = s.hld := rfl
@[simp] theorem endAnswer_cfl (s : State) : (endAnswer s).cfl = s.cfl := rfl
@[simp] theorem endAnswer_cmu (s : State) : (endAnswer s).cmu = s.cmu := rfl
@[simp] theorem endAnswer_flog (s : State) : (endAnswer s).flog = s.flog := rfl
@[simp] theorem endAnswer_pending (s : State) : (endAnswer s).pending = s.pending := rfl

@[simp] theorem answer_inp (s : State) (error : Bool) (data : HostWord) : (answer s error data).inp = s.inp := rfl
@[simp] theorem answer_hpc (s : State) (error : Bool) (data : HostWord) :
    (answer s error data).hpc = ⟨if s.inp.hreq then .answered else .idle, if s.inp.hreq then s.hpc.access else none, true, error, data⟩ := rfl
@[simp] theorem answer_rt (s : State) (error : Bool) (data : HostWord) : (answer s error data).rt = s.rt := rfl
@[simp] theorem answer_mb (s : State) (error : Bool) (data : HostWord) : (answer s error data).mb = s.mb := rfl
@[simp] theorem answer_mq (s : State) (error : Bool) (data : HostWord) : (answer s error data).mq = s.mq := rfl
@[simp] theorem answer_msq (s : State) (error : Bool) (data : HostWord) : (answer s error data).msq = s.msq := rfl
@[simp] theorem answer_rg (s : State) (error : Bool) (data : HostWord) : (answer s error data).rg = s.rg := rfl
@[simp] theorem answer_ral (s : State) (error : Bool) (data : HostWord) : (answer s error data).ral = s.ral := rfl
@[simp] theorem answer_hld (s : State) (error : Bool) (data : HostWord) : (answer s error data).hld = s.hld := rfl
@[simp] theorem answer_cfl (s : State) (error : Bool) (data : HostWord) : (answer s error data).cfl = s.cfl := rfl
@[simp] theorem answer_cmu (s : State) (error : Bool) (data : HostWord) : (answer s error data).cmu = s.cmu := rfl
@[simp] theorem answer_flog (s : State) (error : Bool) (data : HostWord) : (answer s error data).flog = s.flog := rfl
@[simp] theorem answer_pending (s : State) (error : Bool) (data : HostWord) : (answer s error data).pending = s.pending := rfl

@[simp] theorem withNext_inp (s : State) (a : AccessRecord) (next : Nat) : (withNext s a next).inp = s.inp := rfl
@[simp] theorem withNext_hpc (s : State) (a : AccessRecord) (next : Nat) :
    (withNext s a next).hpc = { s.hpc with access := some { a with next := next } } := rfl
@[simp] theorem withNext_rt (s : State) (a : AccessRecord) (next : Nat) : (withNext s a next).rt = s.rt := rfl
@[simp] theorem withNext_mb (s : State) (a : AccessRecord) (next : Nat) : (withNext s a next).mb = s.mb := rfl
@[simp] theorem withNext_mq (s : State) (a : AccessRecord) (next : Nat) : (withNext s a next).mq = s.mq := rfl
@[simp] theorem withNext_msq (s : State) (a : AccessRecord) (next : Nat) : (withNext s a next).msq = s.msq := rfl
@[simp] theorem withNext_rg (s : State) (a : AccessRecord) (next : Nat) : (withNext s a next).rg = s.rg := rfl
@[simp] theorem withNext_ral (s : State) (a : AccessRecord) (next : Nat) : (withNext s a next).ral = s.ral := rfl
@[simp] theorem withNext_hld (s : State) (a : AccessRecord) (next : Nat) : (withNext s a next).hld = s.hld := rfl
@[simp] theorem withNext_cfl (s : State) (a : AccessRecord) (next : Nat) : (withNext s a next).cfl = s.cfl := rfl
@[simp] theorem withNext_cmu (s : State) (a : AccessRecord) (next : Nat) : (withNext s a next).cmu = s.cmu := rfl
@[simp] theorem withNext_flog (s : State) (a : AccessRecord) (next : Nat) : (withNext s a next).flog = s.flog := rfl
@[simp] theorem withNext_pending (s : State) (a : AccessRecord) (next : Nat) : (withNext s a next).pending = s.pending := rfl

@[simp] theorem driveRequest_inp (s : State) (l : HostLines) : (driveRequest s l).inp = { s.inp with hreq := true, lines := l } := rfl
@[simp] theorem driveRequest_hpc (s : State) (l : HostLines) : (driveRequest s l).hpc = s.hpc := rfl
@[simp] theorem driveRequest_rt (s : State) (l : HostLines) : (driveRequest s l).rt = s.rt := rfl
@[simp] theorem driveRequest_mb (s : State) (l : HostLines) : (driveRequest s l).mb = s.mb := rfl
@[simp] theorem driveRequest_mq (s : State) (l : HostLines) : (driveRequest s l).mq = s.mq := rfl
@[simp] theorem driveRequest_msq (s : State) (l : HostLines) : (driveRequest s l).msq = s.msq := rfl
@[simp] theorem driveRequest_rg (s : State) (l : HostLines) : (driveRequest s l).rg = s.rg := rfl
@[simp] theorem driveRequest_ral (s : State) (l : HostLines) : (driveRequest s l).ral = s.ral := rfl
@[simp] theorem driveRequest_hld (s : State) (l : HostLines) : (driveRequest s l).hld = s.hld := rfl
@[simp] theorem driveRequest_cfl (s : State) (l : HostLines) : (driveRequest s l).cfl = s.cfl := rfl
@[simp] theorem driveRequest_cmu (s : State) (l : HostLines) : (driveRequest s l).cmu = s.cmu := rfl
@[simp] theorem driveRequest_flog (s : State) (l : HostLines) : (driveRequest s l).flog = s.flog := rfl
@[simp] theorem driveRequest_pending (s : State) (l : HostLines) : (driveRequest s l).pending = s.pending := rfl

@[simp] theorem driveRising_inp (s : State) (ldi : Bool) : (driveRising s ldi).inp = { s.inp with lclk := true, ldi := ldi } := rfl
@[simp] theorem driveRising_hpc (s : State) (ldi : Bool) : (driveRising s ldi).hpc = s.hpc := rfl
@[simp] theorem driveRising_rt (s : State) (ldi : Bool) : (driveRising s ldi).rt = s.rt := rfl
@[simp] theorem driveRising_mb (s : State) (ldi : Bool) : (driveRising s ldi).mb = s.mb := rfl
@[simp] theorem driveRising_mq (s : State) (ldi : Bool) : (driveRising s ldi).mq = s.mq := rfl
@[simp] theorem driveRising_msq (s : State) (ldi : Bool) : (driveRising s ldi).msq = s.msq := rfl
@[simp] theorem driveRising_rg (s : State) (ldi : Bool) : (driveRising s ldi).rg = s.rg := rfl
@[simp] theorem driveRising_ral (s : State) (ldi : Bool) : (driveRising s ldi).ral = s.ral := rfl
@[simp] theorem driveRising_hld (s : State) (ldi : Bool) : (driveRising s ldi).hld = s.hld := rfl
@[simp] theorem driveRising_cfl (s : State) (ldi : Bool) : (driveRising s ldi).cfl = s.cfl := rfl
@[simp] theorem driveRising_cmu (s : State) (ldi : Bool) : (driveRising s ldi).cmu = s.cmu := rfl
@[simp] theorem driveRising_flog (s : State) (ldi : Bool) : (driveRising s ldi).flog = s.flog := rfl
@[simp] theorem driveRising_pending (s : State) (ldi : Bool) : (driveRising s ldi).pending = s.pending := rfl

@[simp] theorem storeResult_inp (s : State) (r : ResultCode) : (storeResult s r).inp = s.inp := rfl
@[simp] theorem storeResult_hpc (s : State) (r : ResultCode) : (storeResult s r).hpc = s.hpc := rfl
@[simp] theorem storeResult_rt (s : State) (r : ResultCode) : (storeResult s r).rt = s.rt := rfl
@[simp] theorem storeResult_mb (s : State) (r : ResultCode) : (storeResult s r).mb = s.mb := rfl
@[simp] theorem storeResult_mq (s : State) (r : ResultCode) : (storeResult s r).mq = s.mq := rfl
@[simp] theorem storeResult_msq (s : State) (r : ResultCode) : (storeResult s r).msq = s.msq := rfl
@[simp] theorem storeResult_rg (s : State) (r : ResultCode) : (storeResult s r).rg = s.rg := rfl
@[simp] theorem storeResult_ral (s : State) (r : ResultCode) : (storeResult s r).ral = s.ral := rfl
@[simp] theorem storeResult_hld (s : State) (r : ResultCode) : (storeResult s r).hld = s.hld := rfl
@[simp] theorem storeResult_cfl (s : State) (r : ResultCode) : (storeResult s r).cfl = s.cfl := rfl
@[simp] theorem storeResult_cmu (s : State) (r : ResultCode) : (storeResult s r).cmu = { s.cmu with lastResult := r } := rfl
@[simp] theorem storeResult_flog (s : State) (r : ResultCode) : (storeResult s r).flog = s.flog := rfl
@[simp] theorem storeResult_pending (s : State) (r : ResultCode) : (storeResult s r).pending = s.pending := rfl

@[simp] theorem toResult_inp (s : State) (r : ResultCode) (response : List Byte) (report : Report) :
    (toResult s r response report).inp = s.inp := rfl
@[simp] theorem toResult_hpc (s : State) (r : ResultCode) (response : List Byte) (report : Report) :
    (toResult s r response report).hpc = s.hpc := rfl
@[simp] theorem toResult_rt (s : State) (r : ResultCode) (response : List Byte) (report : Report) :
    (toResult s r response report).rt = s.rt := rfl
@[simp] theorem toResult_mb (s : State) (r : ResultCode) (response : List Byte) (report : Report) :
    (toResult s r response report).mb = s.mb := rfl
@[simp] theorem toResult_mq (s : State) (r : ResultCode) (response : List Byte) (report : Report) :
    (toResult s r response report).mq = s.mq := rfl
@[simp] theorem toResult_msq (s : State) (r : ResultCode) (response : List Byte) (report : Report) :
    (toResult s r response report).msq = s.msq := rfl
@[simp] theorem toResult_rg (s : State) (r : ResultCode) (response : List Byte) (report : Report) :
    (toResult s r response report).rg = s.rg := rfl
@[simp] theorem toResult_ral (s : State) (r : ResultCode) (response : List Byte) (report : Report) :
    (toResult s r response report).ral = s.ral := rfl
@[simp] theorem toResult_hld (s : State) (r : ResultCode) (response : List Byte) (report : Report) :
    (toResult s r response report).hld = s.hld := rfl
@[simp] theorem toResult_cfl (s : State) (r : ResultCode) (response : List Byte) (report : Report) :
    (toResult s r response report).cfl = ⟨.result, s.cfl.byteCount + 1, 0, 0, none, [], bitsOf r.code ++ response.flatMap bitsOf, report, s.cfl.ldo⟩ := rfl
@[simp] theorem toResult_cmu (s : State) (r : ResultCode) (response : List Byte) (report : Report) :
    (toResult s r response report).cmu = s.cmu := rfl
@[simp] theorem toResult_flog (s : State) (r : ResultCode) (response : List Byte) (report : Report) :
    (toResult s r response report).flog = s.flog := rfl
@[simp] theorem toResult_pending (s : State) (r : ResultCode) (response : List Byte) (report : Report) :
    (toResult s r response report).pending = s.pending := rfl

@[simp] theorem grantPort_inp (s : State) (p : HoldPolicy) : (grantPort s p).inp = s.inp := rfl
@[simp] theorem grantPort_hpc (s : State) (p : HoldPolicy) : (grantPort s p).hpc = s.hpc := rfl
@[simp] theorem grantPort_rt (s : State) (p : HoldPolicy) : (grantPort s p).rt = s.rt := rfl
@[simp] theorem grantPort_mb (s : State) (p : HoldPolicy) : (grantPort s p).mb = s.mb := rfl
@[simp] theorem grantPort_mq (s : State) (p : HoldPolicy) : (grantPort s p).mq = s.mq := rfl
@[simp] theorem grantPort_msq (s : State) (p : HoldPolicy) : (grantPort s p).msq = ⟨.held, none, none, s.msq.last, none, .floated⟩ := rfl
@[simp] theorem grantPort_rg (s : State) (p : HoldPolicy) : (grantPort s p).rg = s.rg := rfl
@[simp] theorem grantPort_ral (s : State) (p : HoldPolicy) : (grantPort s p).ral = s.ral.invalidate := rfl
@[simp] theorem grantPort_hld (s : State) (p : HoldPolicy) : (grantPort s p).hld = ⟨.granted p, none⟩ := rfl
@[simp] theorem grantPort_cfl (s : State) (p : HoldPolicy) : (grantPort s p).cfl = s.cfl := rfl
@[simp] theorem grantPort_cmu (s : State) (p : HoldPolicy) : (grantPort s p).cmu = s.cmu := rfl
@[simp] theorem grantPort_flog (s : State) (p : HoldPolicy) : (grantPort s p).flog = s.flog := rfl
@[simp] theorem grantPort_pending (s : State) (p : HoldPolicy) : (grantPort s p).pending = s.pending := rfl

@[simp] theorem restartReset_inp (s : State) : (restartReset s).inp = s.inp := rfl
@[simp] theorem restartReset_hpc (s : State) : (restartReset s).hpc = s.hpc := rfl
@[simp] theorem restartReset_rt (s : State) : (restartReset s).rt = Vector.replicate 8 .reset := rfl
@[simp] theorem restartReset_mb (s : State) : (restartReset s).mb = s.mb := rfl
@[simp] theorem restartReset_mq (s : State) : (restartReset s).mq = s.mq := rfl
@[simp] theorem restartReset_msq (s : State) : (restartReset s).msq = s.msq := rfl
@[simp] theorem restartReset_rg (s : State) : (restartReset s).rg = s.rg := rfl
@[simp] theorem restartReset_ral (s : State) : (restartReset s).ral = .reset := rfl
@[simp] theorem restartReset_hld (s : State) : (restartReset s).hld = s.hld := rfl
@[simp] theorem restartReset_cfl (s : State) : (restartReset s).cfl = s.cfl := rfl
@[simp] theorem restartReset_cmu (s : State) : (restartReset s).cmu = .reset := rfl
@[simp] theorem restartReset_flog (s : State) : (restartReset s).flog = s.flog := rfl
@[simp] theorem restartReset_pending (s : State) : (restartReset s).pending = s.pending := rfl

@[simp] theorem countDownEntry_inp (s : State) (i : Fin 8) : (countDownEntry s i).inp = s.inp := rfl
@[simp] theorem countDownEntry_hpc (s : State) (i : Fin 8) : (countDownEntry s i).hpc = s.hpc := rfl
@[simp] theorem countDownEntry_rt (s : State) (i : Fin 8) : (countDownEntry s i).rt = s.rt := rfl
@[simp] theorem countDownEntry_mb (s : State) (i : Fin 8) : (countDownEntry s i).mb = s.mb.set i ((s.mb[i]).map Entry.countDown) := rfl
@[simp] theorem countDownEntry_mq (s : State) (i : Fin 8) : (countDownEntry s i).mq = s.mq := rfl
@[simp] theorem countDownEntry_msq (s : State) (i : Fin 8) : (countDownEntry s i).msq = s.msq := rfl
@[simp] theorem countDownEntry_rg (s : State) (i : Fin 8) : (countDownEntry s i).rg = s.rg := rfl
@[simp] theorem countDownEntry_ral (s : State) (i : Fin 8) : (countDownEntry s i).ral = s.ral := rfl
@[simp] theorem countDownEntry_hld (s : State) (i : Fin 8) : (countDownEntry s i).hld = s.hld := rfl
@[simp] theorem countDownEntry_cfl (s : State) (i : Fin 8) : (countDownEntry s i).cfl = s.cfl := rfl
@[simp] theorem countDownEntry_cmu (s : State) (i : Fin 8) : (countDownEntry s i).cmu = s.cmu := rfl
@[simp] theorem countDownEntry_flog (s : State) (i : Fin 8) : (countDownEntry s i).flog = s.flog := rfl
@[simp] theorem countDownEntry_pending (s : State) (i : Fin 8) : (countDownEntry s i).pending = s.pending := rfl

end Sys2Proof.Machine
end

