-- ==== Sys2Proof/Laws/Ops.lean ====
section
/-! SUPPORT. What each shared operation can do, said once: which fields of the state it can change, how the fault log, the memory queue and
the entries come out of it, and that a quiet state has nothing due. -/

namespace Sys2Proof.Machine

/-! ## Fault log -/

/-- A log with room takes the record at its end (R176). -/
theorem Flog.store_of_room {f : Flog} {r : FaultRecord} (h : f.records.length < 4) :
    f.store r = ⟨f.records ++ [r], f.overflow⟩ := by simp [Flog.store, Config.logCapacity, h]

/-- A full log keeps its records and sets the overflow flag (R176). -/
theorem Flog.store_of_full {f : Flog} {r : FaultRecord} (h : ¬ f.records.length < 4) :
    f.store r = ⟨f.records, true⟩ := by simp [Flog.store, Config.logCapacity, h]

/-- `Flog.store` is what the claims call `logged`. -/
theorem Flog.store_eq_logged (f : Flog) (r : FaultRecord) : f.store r = logged f r := by
  unfold logged
  split
  · exact store_of_room ‹_›
  · exact store_of_full ‹_›

/-- An empty report completes without a change (R177). -/
@[simp] theorem Flog.complete_none (f : Flog) : f.complete none = f := rfl

/-! ## Numbers of entries and regions -/

/-- Every number is one of the eight. -/
@[simp] theorem mem_allEight (i : Fin 8) : i ∈ allEight := by revert i; decide

/-- `find?` over a rising list finds the lowest number that passes the test. -/
theorem find_rising {l : List (Fin 8)} {p : Fin 8 → Bool} {i : Fin 8} (hl : l.Pairwise (· < ·)) :
    l.find? p = some i ↔ i ∈ l ∧ p i = true ∧ ∀ k ∈ l, k < i → p k = false := by
  induction l with
  | nil => simp
  | cons a l ih =>
    obtain ⟨ha, hl⟩ := List.pairwise_cons.mp hl
    rw [List.find?_cons]
    cases hp : p a
    · simp only [ih hl, List.mem_cons, forall_eq_or_imp]
      refine ⟨fun ⟨m, h, k⟩ => ⟨.inr m, h, fun _ => hp, k⟩, fun ⟨m, h, _, k⟩ => ⟨m.resolve_left ?_, h, k⟩⟩
      rintro rfl
      simp_all
    · simp only [Option.some.injEq, List.mem_cons, forall_eq_or_imp]
      constructor
      · rintro rfl
        exact ⟨.inl rfl, hp, fun h => absurd h (lt_irrefl a), fun k hk h => absurd h (lt_asymm (ha k hk))⟩
      · rintro ⟨rfl | m, h, k, -⟩
        · rfl
        · exact absurd (k (ha i m)) (by simp [hp])

/-- `find?` over the eight numbers finds the lowest that passes the test. -/
theorem find_allEight {p : Fin 8 → Bool} {i : Fin 8} :
    allEight.find? p = some i ↔ p i = true ∧ ∀ k, k < i → p k = false := by
  simp [find_rising (l := allEight) (by decide)]

/-- The lowest-numbered FREE entry (R89). -/
theorem lowestFree_eq_some {s : State} {i : Fin 8} : lowestFree s = some i ↔ LowestFreeIs s i := by
  simp only [lowestFree, find_allEight, LowestFreeIs, Option.isNone_iff_eq_none, ne_eq, ← Option.isSome_iff_ne_none]
  simp

/-- No entry is FREE (R90). -/
theorem lowestFree_eq_none {s : State} : lowestFree s = none ↔ ∀ i : Fin 8, s.mb[i] ≠ none := by
  simp [lowestFree]

/-- No OPEN entry holds the word (R85). -/
theorem openEntryFor_eq_none {s : State} {w : Nat} : openEntryFor s w = none ↔ NotOpenFor s w := by
  simp only [openEntryFor, List.find?_eq_none, mem_allEight, forall_const, NotOpenFor]
  refine forall_congr' fun i => ?_
  cases h : s.mb[i] <;> simp

/-- The entry found for a word is OPEN and holds it (R85). -/
theorem openEntryFor_eq_some {s : State} {w : Nat} {i : Fin 8} (h : openEntryFor s w = some i) :
    ∃ e, s.mb[i] = some e ∧ e.isOpen = true ∧ e.word = w := by
  have h := (find_allEight.mp h).1
  cases hi : s.mb[i] with
  | none => rw [hi] at h; cases h
  | some e => rw [hi] at h; simpa using h

/-! ## Closing entries -/

/-- An OPEN entry becomes CLOSED and its item joins the tail (R92). -/
theorem closeEntry_of_open {s : State} {i : Fin 8} {e : Entry} (h : s.mb[i] = some e) (ho : e.isOpen = true) :
    closeEntry s i = { s with mb := s.mb.set i (some { e with state := .closed }), mq := s.mq ++ [.entry i] } := by
  simp [closeEntry, h, ho, appendItem]

/-- An entry that is not OPEN does not close (R92). -/
theorem closeEntry_of_not_open {s : State} {i : Fin 8} (h : ∀ e ∈ s.mb[i], e.isOpen = false) : closeEntry s i = s := by
  unfold closeEntry
  split
  · simp [h _ ‹_›]
  · rfl

/-- An operation on the entries and the queue alone, which puts new items behind those already there. -/
structure ClosesOnly (s t : State) : Prop where
  frame : t = { s with mb := t.mb, mq := t.mq }
  queue : s.mq <+: t.mq
  kept : ∀ i : Fin 8, ∀ e ∈ s.mb[i], e.isOpen = false → t.mb[i] = some e

theorem ClosesOnly.rfl {s : State} : ClosesOnly s s := ⟨Eq.refl s, List.prefix_rfl, fun _ _ h _ => h⟩

theorem ClosesOnly.trans {s t u : State} (h : ClosesOnly s t) (k : ClosesOnly t u) : ClosesOnly s u :=
  ⟨by rw [k.frame, h.frame], h.queue.trans k.queue, fun i e he ho => k.kept i e (h.kept i e he ho) ho⟩

theorem closeEntry_closesOnly (s : State) (i : Fin 8) : ClosesOnly s (closeEntry s i) := by
  cases h : s.mb[i] with
  | none =>
    rw [closeEntry_of_not_open (by simp [h])]
    exact .rfl
  | some e =>
    cases ho : e.isOpen
    · rw [closeEntry_of_not_open (by simp [h, ho])]
      exact .rfl
    · rw [closeEntry_of_open h ho]
      refine ⟨Eq.refl _, List.prefix_append _ _, fun k f hf hfo => ?_⟩
      have hne : i ≠ k := by
        rintro rfl
        simp_all
      simpa [Vector.getElem_set, Fin.val_inj, hne] using hf

theorem closeEntries_closesOnly (l : List (Fin 8)) (s : State) : ClosesOnly s (closeEntries s l) := by
  induction l generalizing s with
  | nil => exact .rfl
  | cons i l ih => exact (closeEntry_closesOnly s i).trans (ih _)

theorem closeAllOpen_closesOnly (s : State) : ClosesOnly s (closeAllOpen s) := closeEntries_closesOnly _ s

theorem forceClose_closesOnly (s : State) : ClosesOnly s (forceClose s) := closeEntries_closesOnly _ s

theorem closeForRead_closesOnly (s : State) (w : Nat) : ClosesOnly s (closeForRead s w) := by
  unfold closeForRead
  split
  · exact closeEntry_closesOnly s _
  · exact .rfl

theorem completionNotification_closesOnly (s : State) : ClosesOnly s (completionNotification s) := by
  unfold completionNotification
  split
  · exact closeAllOpen_closesOnly s
  · exact closeEntries_closesOnly _ s

theorem closeIfComplete_closesOnly (s : State) (i : Fin 8) : ClosesOnly s (closeIfComplete s i) := by
  unfold closeIfComplete
  split
  · split
    · exact closeEntry_closesOnly s i
    · exact .rfl
  · exact .rfl

/-! ## Placing pixels -/

/-- The state that comes out of a placement request, taken or waiting. -/
def Placement.state : Placement → State
  | .accepted s => s
  | .waits s => s

/-- A placement touches the entries, the queue and the latch alone (R85 to R90, R138). -/
theorem placePixel_frame (s : State) (p : Pixel) :
    (placePixel s p).state =
      { s with mb := (placePixel s p).state.mb, mq := (placePixel s p).state.mq, ral := (placePixel s p).state.ral } := by
  have free : ∀ u : State, (placeInFree u p).state =
      { u with mb := (placeInFree u p).state.mb, mq := (placeInFree u p).state.mq, ral := (placeInFree u p).state.ral } := by
    intro u
    unfold placeInFree
    split
    · simp only [Placement.state, openPixel]
      rw [(closeIfComplete_closesOnly _ _).frame]
    · simp only [Placement.state]
      rw [(forceClose_closesOnly _).frame]
  unfold placePixel
  split
  · split
    · split
      · simp only [Placement.state, mergePixel]
        rw [(closeIfComplete_closesOnly _ _).frame]
      · rw [free, (closeEntry_closesOnly _ _).frame]
    · exact free s
  · exact free s

/-- So does handing on a pixel list (R60). -/
theorem placeList_frame (l : List ListEntry) (s : State) :
    (placeList s l).1 = { s with mb := (placeList s l).1.mb, mq := (placeList s l).1.mq, ral := (placeList s l).1.ral } := by
  induction l generalizing s with
  | nil => rfl
  | cons x l ih =>
    cases x with
    | tail lane => exact ih s
    | pixel p =>
      have h := placePixel_frame s p
      unfold placeList
      split
      · rename_i u hu
        rw [hu, Placement.state] at h
        show (placeList u l).1 = _
        rw [ih u, h]
      · rename_i u hu
        rw [hu, Placement.state] at h
        exact h

/-- A report to the RAL is what the claims call `ralReported` (R138). -/
theorem Ral.placed_eq_reported (r : Ral) (w : Nat) : r.placed w = ralReported r w := by
  rcases r with ⟨_ | l, _ | p⟩ <;> simp only [Ral.placed, ralReported, Option.map, Ral.mk.injEq] <;> grind

/-! ## Reads -/

/-- The gather of a read touches the entries, the queue and the gather record alone (R96, R129). -/
theorem resolveWords_closesOnly (o : Origin) (ws : List Nat) (s : State) (k : Nat) : ClosesOnly s (resolveWords s o k ws).1 := by
  have item : ∀ (u : State) (x : Item), ClosesOnly u (appendItem u x) :=
    fun u x => ⟨Eq.refl _, List.prefix_append _ _, fun _ _ h _ => h⟩
  induction ws generalizing s k with
  | nil => exact .rfl
  | cons w ws ih =>
    have step := ((closeForRead_closesOnly s w).trans (item _ (.gather w k o))).trans (ih _ (k + 1))
    unfold resolveWords
    split
    · split
      · exact ih s (k + 1)
      · exact step
    · exact step

/-- The word slots of a gather are its words, in their order (R128). -/
theorem resolveWords_words (o : Origin) (ws : List Nat) (s : State) (k : Nat) : (resolveWords s o k ws).2.map WordSlot.word = ws := by
  induction ws generalizing s k with
  | nil => rfl
  | cons w ws ih =>
    unfold resolveWords
    split
    · split <;> simp [ih]
    · simp [ih]

theorem planRead_frame (s : State) (o : Origin) (f : Format) (l : List ListEntry) :
    planRead s o f l = { s with mb := (planRead s o f l).mb, mq := (planRead s o f l).mq, rg := (planRead s o f l).rg } := by
  have h := (resolveWords_closesOnly o (distinctWords l) s 0).frame
  dsimp only [planRead]
  rw [h]

/-! ## Due work -/

/-- A quiet state has nothing due: every one of the five events leaves it as it is. -/
theorem takeDue_of_settled {s : State} (h : settled s = true) : takeDue s = s := by
  simp only [settled, Bool.and_eq_true, Bool.not_eq_true'] at h
  obtain ⟨⟨⟨⟨h1, h2⟩, h3⟩, h4⟩, h5⟩ := h
  simp only [Option.isNone_iff_eq_none] at h4
  simp [takeDue, takeWaitingPlacement, h1, answerRead, h2, setFlushDone, h3, takeGrant, h4, endRestart, h5]

/-- Every row of a running part is its own event on a quiet state. -/
theorem running_of_quiet {s : State} (h : Quiet s) (own : State → State) : running own s = own s := by
  simp [running, h.1, takeDue_of_settled h.2]

/-- While RSTN is asserted it does nothing. -/
theorem running_of_reset {s : State} (h : s.inp.rstn = false) (own : State → State) : running own s = s := by
  simp [running, h]

/-! ## One CLK period -/

/-- Ending an answer makes nothing due and undoes nothing. -/
@[simp] theorem settled_endAnswer (s : State) : settled (endAnswer s) = settled s := rfl

/-- On a quiet state a CLK period ends the answer and lets the timers, the sequencer and the host port act (log entry 4). -/
theorem clockTick_of_quiet {s : State} (h : Quiet s) : clockTick s = hostActs (tickSequencer (tickIdleTimers (endAnswer s))) := by
  have hd : takeDue (endAnswer s) = endAnswer s := takeDue_of_settled (by simpa using h.2)
  simp [clockTick, h.1, hd]

/-- While RSTN is asserted a CLK period changes nothing. -/
theorem clockTick_of_reset {s : State} (h : s.inp.rstn = false) : clockTick s = s := by simp [clockTick, h]

/-- An armed ready timer is what the MSQ does in a CLK period (R119). -/
theorem tickSequencer_of_armed {s : State} {n : Nat} (h : s.msq.timer = some n) : tickSequencer s = tickReadyTimer s := by
  simp [tickSequencer, h]

/-- With no ready timer armed the MSQ acts on what it finds (R114, R122 to R124). -/
theorem tickSequencer_of_not_armed {s : State} (h : s.msq.timer = none) : tickSequencer s = sequencerActs s := by
  simp [tickSequencer, h]

/-- A ready timer above 1 counts down by one and nothing else happens (R119). -/
theorem tickReadyTimer_of_counting {s : State} {n : Nat} (h : s.msq.timer = some n) (hn : 1 < n) :
    tickReadyTimer s = { s with msq := { s.msq with timer := some (n - 1) } } := by
  simp [tickReadyTimer, h, hn]

/-- Without a request at the pins, or outside IDLE, the host port does nothing in a CLK period (R48). -/
theorem hostActs_of_no_request {s : State} (h : s.inp.hreq = false ∨ s.hpc.state ≠ .idle) : hostActs s = s := by
  rcases h with h | h <;> simp [hostActs, h]

/-- A request that stands at the pins is seen in IDLE, after what is due (R48, R65). -/
theorem hostActs_of_request {s : State} (h : s.inp.hreq = true) (hi : s.hpc.state = .idle) : hostActs s = seeRequest (takeDue s) := by
  simp [hostActs, h, hi]

/-! ## A withdrawal -/

/-- A withdrawal from IDLE with MRDY low begins the head item (R147, R114). -/
theorem withdrawHold_of_idle {s : State} (hi : s.msq.state = .idle) (hm : s.inp.mrdy = false) :
    withdrawHold s = beginHead { s with hld := ⟨.none, none⟩ } := by
  simp [withdrawHold, beginItemEvent, mayBegin, headPermitted, hi, hm]

/-- A withdrawal outside IDLE, or with MRDY high, changes the hold alone (R147). -/
theorem withdrawHold_of_not_idle {s : State} (h : s.msq.state ≠ .idle ∨ s.inp.mrdy = true) :
    withdrawHold s = { s with hld := ⟨.none, none⟩ } := by
  rcases h with h | h <;> simp [withdrawHold, beginItemEvent, mayBegin, h]

end Sys2Proof.Machine
end

