-- ==== Sys2Proof/Laws/Link.lean ====
section
/-! SUPPORT. The link at an apply point: which row it is, what a refused and a taken command leave, and the checks a region command begins
with. -/

namespace Sys2Proof.Machine

/-- A refused command leaves what the claims call `commandDone` (R154, R155). -/
theorem refuseCommand_eq_commandDone (s : State) (ldi : Bool) (r : ResultCode) :
    refuseCommand (driveRising s ldi) r = commandDone s ldi r := rfl

/-- A region number in range passes check 1 of R20. -/
theorem withRegion_of_eq {s : State} {params : List Byte} {n : Fin 8} (h : paramNumber params 0 1 = n.val)
    (k : Fin 8 → Region → LinkOutcome) : withRegion s params k = k n s.rt[n] := by
  simp only [withRegion, h, n.isLt, dif_pos, Fin.getElem_fin, Fin.eta]

/-- A region number out of range is refused with BAD_REGION (R20). -/
theorem withRegion_of_ge {s : State} {params : List Byte} (h : 8 ≤ paramNumber params 0 1)
    (k : Fin 8 → Region → LinkOutcome) : withRegion s params k = .refused .badRegion := by
  simp [withRegion, h]

/-- At its apply point on a quiet state a row applies its command. -/
theorem applyRow_of_atApply {s : State} {k : LinkCommand} {params : List Byte} {ldi : Bool} (hq : Quiet s)
    (h : AtApply s k params ldi) : applyRow k ldi s = .next (applyCommand k params (driveRising s ldi)) := by
  unfold applyRow
  rw [running_of_quiet hq, h]
  simp

/-- Outside RESTART a command has its own outcome (R154). -/
theorem applyCommand_of_not_restarting {s : State} (h : s.cmu.restarting = false) (k : LinkCommand) (params : List Byte) :
    applyCommand k params s =
      match k.outcome params s with
      | .refused r => refuseCommand s r
      | .taken t response report => toResult (if k.alwaysTaken then t else storeResult t .ok) .ok response report :=
  if_neg (by simp [h])

/-- While RESTART is in progress every command but READ_STATUS and READ_FAULT is refused with BUSY (R154). -/
theorem applyCommand_of_restarting {s : State} {k : LinkCommand} (h : s.cmu.restarting = true) (hk : k.alwaysTaken = false)
    (params : List Byte) : applyCommand k params s = refuseCommand s .busy := by
  simp [applyCommand, h, hk]

end Sys2Proof.Machine
end

