-- ==== Sys2Proof/Laws/PerInstr.lean ====
section
/-! SUPPORT. The family `WellFormedRow`: a command is well formed exactly when, if it is an IDLE_EXPIRY, it names one of the eight merge
entries (R82). -/

namespace Sys2Proof.Laws.WellFormedRow

/-- Only the entry number of an IDLE_EXPIRY can make a command ill formed. -/
def Statement (i : Instr) : Prop := i.wellFormed = true ↔ ∀ n, i = .idleExpiry n → n < 8

/-- Every other command is well formed whatever its operands. -/
theorem of_other {i : Instr} (h : ∀ n, i ≠ .idleExpiry n) (w : i.wellFormed = true) : Statement i :=
  ⟨fun _ n e => absurd e (h n), fun _ => w⟩

theorem hostRequest (write : Bool) (address : BitVec 22) (lanes : BitVec 4) (data : HostWord) : Statement (.hostRequest write address lanes data) :=
  of_other (fun _ e => nomatch e) rfl

theorem readAnswer : Statement .readAnswer :=
  of_other (fun _ e => nomatch e) rfl

theorem hreqLow : Statement .hreqLow :=
  of_other (fun _ e => nomatch e) rfl

theorem waitingPlacementTaken : Statement .waitingPlacementTaken :=
  of_other (fun _ e => nomatch e) rfl

theorem idleExpiry (entry : Nat) : Statement (.idleExpiry entry) := by simp [Statement, Instr.wellFormed]

theorem beginItem : Statement .beginItem :=
  of_other (fun _ e => nomatch e) rfl

theorem strobeWriteComplete : Statement .strobeWriteComplete :=
  of_other (fun _ e => nomatch e) rfl

theorem rmwReadComplete (md : Word) : Statement (.rmwReadComplete md) :=
  of_other (fun _ e => nomatch e) rfl

theorem rmwWriteComplete : Statement .rmwWriteComplete :=
  of_other (fun _ e => nomatch e) rfl

theorem readComplete (md : Word) : Statement (.readComplete md) :=
  of_other (fun _ e => nomatch e) rfl

theorem mrdyRelease : Statement .mrdyRelease :=
  of_other (fun _ e => nomatch e) rfl

theorem readyTimeout : Statement .readyTimeout :=
  of_other (fun _ e => nomatch e) rfl

theorem secondExpiry : Statement .secondExpiry :=
  of_other (fun _ e => nomatch e) rfl

theorem recoverEnd : Statement .recoverEnd :=
  of_other (fun _ e => nomatch e) rfl

theorem unsolicitedReady : Statement .unsolicitedReady :=
  of_other (fun _ e => nomatch e) rfl

theorem stuckDrop : Statement .stuckDrop :=
  of_other (fun _ e => nomatch e) rfl

theorem stuckEnd : Statement .stuckEnd :=
  of_other (fun _ e => nomatch e) rfl

theorem holdRequest : Statement .holdRequest :=
  of_other (fun _ e => nomatch e) rfl

theorem holdGrant : Statement .holdGrant :=
  of_other (fun _ e => nomatch e) rfl

theorem holdWithdraw : Statement .holdWithdraw :=
  of_other (fun _ e => nomatch e) rfl

theorem holdRelease (mrdy : Bool) : Statement (.holdRelease mrdy) :=
  of_other (fun _ e => nomatch e) rfl

theorem rstnAssert : Statement .rstnAssert :=
  of_other (fun _ e => nomatch e) rfl

theorem rstnRelease (mrdy : Bool) : Statement (.rstnRelease mrdy) :=
  of_other (fun _ e => nomatch e) rfl

theorem frameStart : Statement .frameStart :=
  of_other (fun _ e => nomatch e) rfl

theorem frameEnd : Statement .frameEnd :=
  of_other (fun _ e => nomatch e) rfl

theorem unknownCommand (ldi : Bool) : Statement (.unknownCommand ldi) :=
  of_other (fun _ e => nomatch e) rfl

theorem readStatus : Statement .readStatus :=
  of_other (fun _ e => nomatch e) rfl

theorem readFault : Statement .readFault :=
  of_other (fun _ e => nomatch e) rfl

theorem readFaultCompletion : Statement .readFaultCompletion :=
  of_other (fun _ e => nomatch e) rfl

theorem readRegion (ldi : Bool) : Statement (.readRegion ldi) :=
  of_other (fun _ e => nomatch e) rfl

theorem setWindow (ldi : Bool) : Statement (.setWindow ldi) :=
  of_other (fun _ e => nomatch e) rfl

theorem setSurface (ldi : Bool) : Statement (.setSurface ldi) :=
  of_other (fun _ e => nomatch e) rfl

theorem setMode (ldi : Bool) : Statement (.setMode ldi) :=
  of_other (fun _ e => nomatch e) rfl

theorem setBand (ldi : Bool) : Statement (.setBand ldi) :=
  of_other (fun _ e => nomatch e) rfl

theorem setScroll (ldi : Bool) : Statement (.setScroll ldi) :=
  of_other (fun _ e => nomatch e) rfl

theorem setCursorWindow (ldi : Bool) : Statement (.setCursorWindow ldi) :=
  of_other (fun _ e => nomatch e) rfl

theorem setCursor (ldi : Bool) : Statement (.setCursor ldi) :=
  of_other (fun _ e => nomatch e) rfl

theorem revisitBegin (ldi : Bool) : Statement (.revisitBegin ldi) :=
  of_other (fun _ e => nomatch e) rfl

theorem revisitEnd (ldi : Bool) : Statement (.revisitEnd ldi) :=
  of_other (fun _ e => nomatch e) rfl

theorem enable (ldi : Bool) : Statement (.enable ldi) :=
  of_other (fun _ e => nomatch e) rfl

theorem disable (ldi : Bool) : Statement (.disable ldi) :=
  of_other (fun _ e => nomatch e) rfl

theorem flush : Statement .flush :=
  of_other (fun _ e => nomatch e) rfl

theorem flushDone : Statement .flushDone :=
  of_other (fun _ e => nomatch e) rfl

theorem setTiming (ldi : Bool) : Statement (.setTiming ldi) :=
  of_other (fun _ e => nomatch e) rfl

theorem setMemory (ldi : Bool) : Statement (.setMemory ldi) :=
  of_other (fun _ e => nomatch e) rfl

theorem restart : Statement .restart :=
  of_other (fun _ e => nomatch e) rfl

theorem restartEnd : Statement .restartEnd :=
  of_other (fun _ e => nomatch e) rfl

theorem lclkRisingEdge (ldi : Bool) : Statement (.lclkRisingEdge ldi) :=
  of_other (fun _ e => nomatch e) rfl

theorem lclkFallingEdge : Statement .lclkFallingEdge :=
  of_other (fun _ e => nomatch e) rfl

theorem mholdDuringReset (level : Bool) : Statement (.mholdDuringReset level) :=
  of_other (fun _ e => nomatch e) rfl

end Sys2Proof.Laws.WellFormedRow
end

