-- ==== Sys2Proof/Tests/Slice0.lean ====
section
/-! SUPPORT. The tests: what is ill formed is refused, the worked examples of spec/ come out as the spec has them, and for every statement
with hypotheses a state and operands that meet them (`witness_<statement>`). -/

namespace Sys2Proof.Tests

open Sys2Proof.Machine

/-! ## States to test on -/

/-- Region 4 of 3.7: MAPPED, P4, a band with offset 5, mirror x. -/
def mapped4 : Region :=
  { Region.reset with
    enabled := true, windowBase := 0x300000, windowLength := 1000, base := 4000, pitch := 25, width := 100, height := 40, format := .p4
    bandTop := 10, bandRows := 20, scroll := 5, mirrorX := true }

/-- Region 1 of 8.7: STREAM, P8, read-ahead on, cursor window (10, 12, 4, 5). -/
def stream1 : Region :=
  { Region.reset with
    enabled := true, windowBase := 0x700000, windowLength := 16, base := 8000, pitch := 32, width := 64, height := 32, format := .p8
    kind := .stream, readAhead := true, x0 := 10, x1 := 12, y0 := 4, y1 := 5, cursor := ⟨10, 4⟩ }

/-- Region 6 of 5.8: STREAM, P16, COLUMN_FIRST, cursor window (0, 1, 0, 2) with the cursor at (1, 2), its last position. -/
def column6 : Region :=
  { Region.reset with
    enabled := true, windowBase := 0x710000, windowLength := 4, base := 100, pitch := 4, width := 4, height := 4
    kind := .stream, scan := .columnFirst, x0 := 0, x1 := 1, y0 := 0, y1 := 2, cursor := ⟨1, 2⟩ }

/-- The part after reset with one region record in place of region n. -/
def withRegionAt (n : Fin 8) (r : Region) : State := { State.reset with rt := State.reset.rt.set n r }

/-- A P8 REPLACE entry with slot 0 covered. -/
def entryIn (st : EntryState) (word : Nat) : Entry := ⟨st, word, .p8, .replace, 0x0041, 1, 1, .pass⟩

/-- The part after reset with one merge entry. -/
def withEntry (i : Fin 8) (e : Entry) : State := { State.reset with mb := State.reset.mb.set i (some e) }

/-- A part whose every entry is in the given state, entry i with word i. -/
def allEntries (st : EntryState) : State := { State.reset with mb := Vector.ofFn fun i => some (entryIn st i.val) }

/-- An operation in flight. -/
def withOp (s : State) (st : MsqState) (x : Item) (word : Nat) (kind : OpKind) (step : OpStep) : State :=
  { s with
    msq :=
      ⟨st, some ⟨x, word, kind, step⟩, some 1024, some (word, .read), none,
        if step = .ready then .cycle ⟨BitVec.ofNat 20 word, false, 3, none⟩ else .deselected⟩ }

/-- The queue. -/
def withQueue (s : State) (q : List Item) : State := { s with mq := q }

/-- A read of one word in GATHERING, its word slot in the given state, its READ item at the head of the queue. -/
def gathering (st : WordState) (pixel : SlotState) (q : List Item) : State :=
  { State.reset with
    hpc := ⟨.gathering, some ⟨.read, 16, 1, 0, some .pass, none, [], 0⟩, false, false, 0⟩
    rg := some ⟨.p8, [.pixel 0 8 0 0 pixel], [⟨8, st⟩]⟩
    mq := q }

/-- A prefetch of word 8165 pending, its item at the head of the queue. -/
def prefetching : State := { State.reset with ral := ⟨none, some ⟨8165, false⟩⟩, mq := [.prefetch 8165 (.region 1)] }

/-- The link one bit before the apply point of a command with these parameter bytes. -/
def linkAt (s : State) (k : LinkCommand) (code : Byte) (params : List Byte) : State :=
  { s with
    cfl :=
      if params = [] then { Cfl.reset with state := .command, bitCount := 7, shifter := code >>> 1 }
      else
        { Cfl.reset with
          state := .parameters, byteCount := params.length, bitCount := 7, shifter := params.getLastD 0 >>> 1
          code := some k, params := params.dropLast } }

/-- RESTART is in progress with an item left. -/
def restarting (s : State) : State := { s with cmu := { s.cmu with restarting := true }, mq := [.gather 8 0 .pass] }

/-- The full queue of 7.6: eight entries, one of them ACTIVE at the head, four gather reads and a prefetch. -/
def fullQueue : State :=
  withOp
    { allEntries .closed with
      mb := (allEntries .closed).mb.set 0 (some (entryIn (.active .strobeWrite) 0))
      hpc := ⟨.gathering, none, false, false, 0⟩
      rg := some ⟨.p8, [], [⟨100, .queued⟩, ⟨101, .queued⟩, ⟨102, .queued⟩, ⟨103, .queued⟩]⟩
      ral := ⟨none, some ⟨200, false⟩⟩
      mq := [.entry 0, .entry 1, .entry 2, .entry 3, .entry 4, .entry 5, .entry 6, .entry 7, .prefetch 200 (.region 1),
        .gather 100 0 .pass, .gather 101 1 .pass, .gather 102 2 .pass, .gather 103 3 .pass] }
    .writing (.entry 0) 0 .strobeWrite .ready

/-! ## Well-formedness and the table word -/

theorem test_idle_expiry_of_entry_8_is_ill_formed : (Instr.idleExpiry 8).wellFormed = false := by decide

theorem test_idle_expiry_of_entry_7_is_well_formed : (Instr.idleExpiry 7).wellFormed = true := by decide

theorem test_table_words_spell_no_command : decodeTableWord 8 0 = none := by decide

/-! ## Worked examples of the spec -/

/-- 1.10: 0x3A5C with a SET of 0x3 and 0x8 in slots 1 and 2 becomes 0x3A7C. -/
theorem test_set_word : applyToWord .p4 .set 0x6 0x0830 0x3A5C = 0x3A7C := by decide

/-- 1.10: P2 coverage of slots 2 to 4 is PARTIAL in both bytes. -/
theorem test_p2_partial : byteAligned .p2 0x1C = false := by decide

/-- 1.10: P2 coverage of slots 0 to 3 is the low byte. -/
theorem test_p2_low_byte : byteAligned .p2 0xF = true ∧ strobeSet .p2 0xF = 1 := by decide

/-- 3.7: logical (3, 27) of region 4 is word 4324, slot 0. -/
theorem test_translation : mapped4.translate ⟨3, 27⟩ = ⟨4324, 0⟩ := by decide

/-- 3.7: with mirror y on as well it is word 4699, slot 0. -/
theorem test_translation_mirror_y : { mapped4 with mirrorY := true }.translate ⟨3, 27⟩ = ⟨4699, 0⟩ := by decide

/-- 3.7: region 4 passes the ENABLE checks in the smallest memory. -/
theorem test_enable_checks : mapped4.enableChecks 65536 = true := by decide

/-- 5.8: four steps from the first position of region 1's window end at (11, 5). -/
theorem test_cursor_advance : stream1.advance 4 ⟨10, 4⟩ = ⟨11, 5⟩ := by decide

/-- 5.8: from (1, 1) two steps of region 6 wrap to (0, 0). -/
theorem test_cursor_wrap : column6.advance 2 ⟨1, 1⟩ = ⟨0, 0⟩ := by decide

/-- The state after a command; this one where it stops, which no command does. -/
def after (c : Instr) (s : State) : State :=
  match exec c s with
  | .next t => t
  | .fault _ => s
  | .refused _ => s

/-- 6.7, step 1: a whole word of region 4 opens e0, fills it and closes it with operand 0x1234. -/
theorem test_fill_a_word :
    let t := after (.hostRequest true (BitVec.ofNat 22 (0x300A8C / 4)) 0xF 0x04030201) (withRegionAt 4 mapped4)
    t.mq = [.entry 0] ∧ (t.mb[0]).map Entry.operand = some 0x1234 ∧ t.hpc.hdone = true := by decide

/-- 6.7, step 4: bytes 0x03 and 0x05 to a P4 TOGGLE region leave operand 0x0053 with coverage slots 0 and 1. -/
theorem test_toggle_pair :
    let r := { Region.reset with enabled := true, windowBase := 0x310000, windowLength := 100, base := 9000, pitch := 10, width := 40,
                                 height := 10, format := .p4, op := .toggle }
    let t := after (.hostRequest true (BitVec.ofNat 22 (0x310000 / 4)) 0x3 0x0503) (withRegionAt 2 r)
    (t.mb[0]).map (fun e => (e.word, e.operand, e.coverage, e.origin)) = some (9000, 0x0053, 0x3, .region 2) := by decide

/-- 7.6: the read of e5's read-modify-write returns 0xA7C1 and the new word is 0xA7C4. -/
theorem test_rmw_word :
    let e : Entry := ⟨.active .rmwRead, 9000, .p4, .toggle, 0x0005, 0x3, 1, .region 2⟩
    let t := after (.rmwReadComplete 0xA7C1) (withOp (withQueue (withEntry 5 e) [.entry 5]) .reading (.entry 5) 9000 (.rmw none) .ready)
    t.msq.op = some ⟨.entry 5, 9000, .rmw (some 0xA7C4), .release⟩ := by decide

/-- 8.7, steps 1 to 3: lanes 0 and 1 of word 8133 are answered 0x4C1F, and word 8134 is prefetched. -/
theorem test_stream_read :
    let s1 := after (.hostRequest false (BitVec.ofNat 22 (0x700000 / 4)) 0x3 0) (withRegionAt 1 stream1)
    let t := after .readAnswer (after (.readComplete 0x4C1F) (after .beginItem s1))
    t.hpc.hrd = 0x4C1F ∧ t.ral.prefetch = some ⟨8134, false⟩ ∧ t.mq = [.prefetch 8134 (.region 1)] := by decide

/-- 11, step 1: a read of 0x300000 that nobody claims records UNCLAIMED, and FLTN goes low. -/
theorem test_unclaimed :
    let t := after (.hostRequest false (BitVec.ofNat 22 (0x300000 / 4)) 0xF 0) State.reset
    t.flog.records = [⟨.unclaimed, none, .read, some 0x300000, none, none⟩] ∧ t.fltn = false := by decide

/-- 10.9: the last bit of SET_SCROLL 6 to region 4 sets the offset, with result OK. -/
theorem test_set_scroll :
    let t := after (.setScroll false) (linkAt (withRegionAt 4 mapped4) .setScroll 0x20 [4, 0, 6])
    (t.rt[4]).scroll = 6 ∧ t.cfl.state = .result ∧ t.cmu.lastResult = .ok := by decide

/-- R160: the status response after reset, from the layout of chapter 10: FLUSH_DONE, 8 FREE entries, size 16 and pass-through, delay 4,
timeout 1024 / 16. -/
theorem test_status_after_reset : statusBytes State.reset = [0x20, 8, 0, 0, 0, 0x30, 4, 64] := by decide

/-- R94: an idle step of the last CLK period closes the entry. -/
theorem test_idle_step_closes : ∃ t, step (withEntry 3 (entryIn (.opened (.count 1)) 40)) = .next t ∧ t.msq.op.isSome = true := ⟨_, rfl, by decide⟩

/-- A step on the part's own queue; this state where it stops, which no step does. -/
def afterStep (s : State) : State :=
  match step s with
  | .next t => t
  | .fault _ => s
  | .refused _ => s

/-- R48, R131: an answer that falls due in a CLK period has HDONE high, with the data on HRD, for one CLK period. -/
theorem test_answer_in_a_clk_period :
    let t := afterStep (gathering (.returned 0x4C1F) .done [])
    t.hpc.hdone = true ∧ t.hpc.hrd = 0x1F ∧ (afterStep t).hpc.hdone = false ∧ (afterStep t).hpc.hrd = 0 := by decide

/-- R48, R131: the same for an answer that falls due when HREQ goes low. -/
theorem test_answer_at_hreq_low :
    let t := after .hreqLow (gathering (.returned 0x4C1F) .done [])
    t.hpc.hdone = true ∧ t.hpc.hrd = 0x1F ∧ t.inp.hreq = false ∧ t.hpc.state = .idle := by decide

/-! ## Witnesses: the machine as a whole, and the resets -/

theorem witness_StepTakesTheFrontCommand : { State.reset with pending := [.holdRequest, .readAnswer] }.pending = [.holdRequest, .readAnswer] := by
  decide

theorem witness_DueWorkIsDoneFirst :
    settled State.reset = true ∧ settled (gathering (.returned 0x4C1F) .done []) = false
      ∧ State.reset.inp.rstn = true ∧ Instr.beginItem ≠ .readAnswer ∧ Instr.beginItem ≠ .waitingPlacementTaken
      ∧ Instr.beginItem ≠ .flushDone ∧ Instr.beginItem ≠ .holdGrant ∧ Instr.beginItem ≠ .restartEnd ∧ Instr.beginItem ≠ .hreqLow
      ∧ State.reset.hpc.state = .idle ∧ (gathering (.returned 0x4C1F) .done []).inp.rstn = true
      ∧ (gathering (.returned 0x4C1F) .done []).hpc.state ≠ .idle := by decide

/-- The port granted, with entry 3 about to run out (n = 1) or with one more period (n = 2). -/
def heldWith (n : Nat) : State :=
  { withEntry 3 (entryIn (.opened (.count n)) 40) with
    inp := { Inputs.reset with mhold := true }
    hld := ⟨.granted .immediate, none⟩
    msq := { Msq.reset with state := .held, port := .floated } }

/-- An OPEN entry about to run out, or not, with the MSQ in each state in which it has a turn of its own, and a request standing at the pins. -/
theorem witness_ClkPeriodCountsAndActs :
    (∀ n ∈ [1, 2], ∀ st ∈ [MsqState.idle, .stuck, .recover], ∀ hreq ∈ [true, false],
      let b := withEntry 3 (entryIn (.opened (.count n)) 40)
      let s : State :=
        { b with
          inp := { b.inp with hreq := hreq, mrdy := true }
          msq := { Msq.reset with state := st, timer := if st = .recover then some n else none } }
      Quiet s ∧ TimerOk s ∧ s.pending = [] ∧ s.hpc.state = .idle)
    ∧ (Quiet (heldWith 1) ∧ TimerOk (heldWith 1) ∧ (heldWith 1).pending = [] ∧ (heldWith 1).msq.state = .held
      ∧ (heldWith 1).inp.hreq = false ∧ (heldWith 1).mb[3] = some (entryIn (.opened (.count 1)) 40))
    ∧ Quiet (heldWith 2) ∧ (heldWith 2).msq.state = .held ∧ (heldWith 2).mb[3] = some (entryIn (.opened (.count 2)) 40) := by decide

/-- The part with RSTN asserted and MHOLD and LSEL at these levels. -/
def inReset (mhold lsel : Bool) : State := assertReset { State.reset with inp := { Inputs.reset with mhold := mhold, lsel := lsel } }

theorem witness_RstnReleaseTakesTheHoldLine :
    (inReset true true).inp.rstn = false ∧ (inReset true true).inp.mhold = true ∧ (inReset true true).inp.lsel = true
      ∧ (inReset false false).inp.rstn = false ∧ (inReset false false).inp.mhold = false ∧ (inReset false false).inp.lsel = false := by decide

theorem witness_OnlyPinsMoveDuringReset :
    (inReset false true).inp.rstn = false ∧ (∀ m, Instr.frameStart ≠ .rstnRelease m) ∧ (∀ l, Instr.frameStart ≠ .mholdDuringReset l)
      ∧ Instr.frameStart ≠ .rstnAssert := by decide

/-! ## Witnesses: the invariants, each kept by a step from a state that is not the reset state -/

/-- Region 1 in revisit mode and region 4 ENABLED. -/
def twoRegions : State :=
  { State.reset with rt := (State.reset.rt.set 1 { stream1 with revisit := true, mark := some ⟨12, 5⟩ }).set 4 mapped4 }

theorem witness_EveryStepKeepsTableAndSettings :
    TableOk twoRegions ∧ SettingsOk twoRegions ∧ ∃ t, step twoRegions = .next t := ⟨by decide, by decide, _, rfl⟩

/-- A full fault log with its overflow flag set and an answer on the host port. -/
def fullLog : State :=
  { State.reset with
    flog := ⟨List.replicate 4 ⟨.unclaimed, none, .read, some 0x300000, none, none⟩, true⟩
    hpc := ⟨.answered, none, true, true, 0⟩ }

theorem witness_EveryStepKeepsLogAndHostLines :
    (LogOk fullLog ∧ HostLinesOk fullLog ∧ ∃ t, step fullLog = .next t)
      ∧ (let s := { fullLog with cfl := { Cfl.reset with report := .fault fullLog.flog.records.head? } }
         reportOk s = true ∧ ∃ t, step s = .next t) := ⟨⟨by decide, by decide, _, rfl⟩, by decide, _, rfl⟩

theorem witness_EveryStepKeepsResetValuesAndPortOwner :
    (∃ t, step (inReset true false) = .next t) ∧ (inReset true false).inp.rstn = false ∧ ResetHolds (inReset true false)
      ∧ PortOk (heldWith 2) ∧ TimerOk fullQueue ∧ ∃ t, step fullQueue = .next t :=
  ⟨⟨_, rfl⟩, by decide, by decide, by decide, by decide, _, rfl⟩

theorem witness_EveryStepKeepsOneOpenEntryPerWord :
    OneOpenPerWord (allEntries (.opened .atAnswer)) ∧ ∃ t, step (allEntries (.opened .atAnswer)) = .next t := ⟨by decide, _, rfl⟩

theorem witness_EveryStepKeepsQueueAndLatch :
    QueueOk fullQueue ∧ ResetHolds fullQueue ∧ PortOk fullQueue ∧ (∃ t, step fullQueue = .next t)
      ∧ QueueOk (inReset true true) ∧ ResetHolds (inReset true true) ∧ PortOk (inReset true true)
      ∧ QueueOk (heldWith 2) ∧ ResetHolds (heldWith 2) ∧ PortOk (heldWith 2) :=
  ⟨by decide, by decide, by decide, ⟨_, rfl⟩, by decide, by decide, by decide, by decide, by decide, by decide⟩

theorem witness_ResetStateMeetsTheInvariants :
    State.reset.inp = { Inputs.reset with rstn := true } ∧ State.reset.pending = []
      ∧ (inReset false false).inp = { Inputs.reset with rstn := false } ∧ (inReset false false).pending = [] := by decide

/-- 7.6: the queue can hold all thirteen. -/
theorem witness_QueueHoldsAtMostThirteen : QueueOk fullQueue ∧ fullQueue.mq.length = 13 := by decide

/-! ## Witnesses: pixels, words and surfaces -/

theorem witness_WordIsFormedSlotBySlot : 15 < Format.ppw .p1 ∧ 0 < Format.ppw .p16 := by decide

theorem witness_StrobeWriteLeavesTheFormedWord : byteAligned .p4 0x3 = true ∧ byteAligned .p16 0x1 = true := by decide

theorem witness_CombinedOperandStandsForTheSeries :
    15 < Format.ppw .p1 ∧ ((0x7FFF : BitVec 16).getLsbD 15 = false → slotValue .p1 0x7FFF 15 = 0)
      ∧ 0 < Format.ppw .p4 ∧ ((0x1 : BitVec 16).getLsbD 0 = false → slotValue .p4 0x000F 0 = 0) := by decide

theorem witness_TranslationIsOneToOne :
    mapped4.enableChecks 65536 = true ∧ 99 < mapped4.width ∧ 39 < mapped4.height ∧ 0 < mapped4.width ∧ 0 < mapped4.height := by decide

theorem witness_SuccessorIsTheNextNumber :
    stream1.inCursorWindow ⟨12, 5⟩ = true ∧ stream1.scan = .rowFirst ∧ stream1.inCursorWindow ⟨10, 4⟩ = true
      ∧ column6.inCursorWindow ⟨1, 2⟩ = true ∧ column6.scan = .columnFirst := by decide

/-! ## Witnesses: the host port -/

theorem witness_ZeroLaneRequestIsAnswered : Quiet State.reset ∧ State.reset.hpc.state = .idle := by decide

/-- The HPC in ANSWERED. -/
def answeredState : State := { State.reset with hpc := ⟨.answered, none, true, false, 0⟩ }

theorem witness_RequestWaitsOutsideIdleAndRestart :
    (Quiet answeredState ∧ answeredState.hpc.state ≠ .idle)
      ∧ Quiet (restarting State.reset) ∧ (restarting State.reset).hpc.state = .idle ∧ (restarting State.reset).cmu.restarting = true
      ∧ (8 : BitVec 4) ≠ 0 := by decide

/-- The first host word beyond the aperture of the largest memory. -/
theorem witness_UnclaimedRequestIsRefused :
    Quiet State.reset ∧ State.reset.hpc.state = .idle ∧ State.reset.cmu.restarting = false ∧ (1 : BitVec 4) ≠ 0
      ∧ claimantOf State.reset (4 * (0x80000 : BitVec 22).toNat) = none := by decide

/-- The last host word of region 4's window, 0x300F9C. -/
def lastOf4 : BitVec 22 := 0xC03E7

theorem witness_RegionRefusesTheRequest :
    (let s := withRegionAt 4 { mapped4 with access := .ro }
     Quiet s ∧ s.hpc.state = .idle ∧ s.cmu.restarting = false ∧ (1 : BitVec 4) ≠ 0 ∧ LowestCovering s (4 * lastOf4.toNat) 4
      ∧ (s.rt[4]).access = .ro)
    ∧ (let s := withRegionAt 4 { mapped4 with access := .wo }
       Quiet s ∧ LowestCovering s (4 * lastOf4.toNat) 4 ∧ (s.rt[4]).access = .wo)
    ∧ (let s := withRegionAt 6 column6
       Quiet s ∧ s.hpc.state = .idle ∧ s.cmu.restarting = false ∧ LowestCovering s (4 * (0x1C4000 : BitVec 22).toNat) 6
        ∧ (s.rt[6]).access = .rw ∧ (s.rt[6]).format = .p16 ∧ (8 : BitVec 4) ≠ 0
        ∧ (8 : BitVec 4).getLsbD 2 ≠ (8 : BitVec 4).getLsbD 3) := by decide

/-- The last host word of the aperture: lane 3 is byte 2097151, slot 1 of word 1048575. -/
def lastOfPass : BitVec 22 := 0x7FFFF

theorem witness_PassByteIsPlacedOrGathered :
    (Quiet State.reset ∧ State.reset.hpc.state = .idle ∧ State.reset.cmu.restarting = false
      ∧ claimantOf State.reset (4 * lastOfPass.toNat) = some .pass ∧ 1 ≤ State.reset.cmu.settings.idleDelay
      ∧ NoneAtAnswer State.reset ∧ NotOpenFor State.reset 1048575 ∧ LowestFreeIs State.reset 0
      ∧ State.reset.ral.latch.map Latch.word ≠ some 1048575)
    ∧ (let s := { State.reset with ral := ⟨some ⟨1048575, 0x1234⟩, none⟩ }
       Quiet s ∧ s.hpc.state = .idle ∧ s.cmu.restarting = false ∧ claimantOf s (4 * lastOfPass.toNat) = some .pass
        ∧ s.ral.latch = some ⟨1048575, 0x1234⟩) ∧ (0xF : BitVec 4) ≠ 0 ∧ (0xC : BitVec 4) ≠ 0 := by decide

/-- R59: lanes 0 to 3 at the last host word of the aperture fall in words 1048574 and 1048575. -/
theorem test_pass_four_lanes :
    let t := after (.hostRequest false lastOfPass 0xF 0) State.reset
    t.mq = [.gather 1048574 0 .pass, .gather 1048575 1 .pass] ∧ t.hpc.state = .gathering := by decide

theorem witness_StreamClaimReservesAndMovesTheCursor :
    (let s := withRegionAt 1 stream1
     Quiet s ∧ s.hpc.state = .idle ∧ s.cmu.restarting = false ∧ (0xF : BitVec 4) ≠ 0 ∧ LowestCovering s (4 * (0x1C000F : BitVec 22).toNat) 1
      ∧ (s.rt[1]).kind = .stream ∧ (s.rt[1]).access = .rw ∧ (s.rt[1]).format ≠ .p16)
    ∧ (let s := withRegionAt 6 column6
       Quiet s ∧ LowestCovering s (4 * (0x1C4000 : BitVec 22).toNat) 6 ∧ (s.rt[6]).format = .p16 ∧ (0xC : BitVec 4) ≠ 0
        ∧ (0xC : BitVec 4).getLsbD 0 = (0xC : BitVec 4).getLsbD 1 ∧ (0xC : BitVec 4).getLsbD 2 = (0xC : BitVec 4).getLsbD 3)
    ∧ (Quiet twoRegions ∧ LowestCovering twoRegions (4 * (0x1C0000 : BitVec 22).toNat) 1 ∧ (twoRegions.rt[1]).revisit = true)
    ∧ (let s := { withRegionAt 1 stream1 with ral := ⟨some ⟨8133, 0x4C1F⟩, none⟩ }
       Quiet s ∧ LowestCovering s (4 * (0x1C0000 : BitVec 22).toNat) 1 ∧ ((s.rt[1]).translate (s.rt[1]).cursor).word = 8133) := by decide

/-- A MAPPED P4 region of 10 columns and 3 rows: 30 host bytes in 8 host words, so that the last word, 0x32001C, ends in a tail of two lanes. -/
def tail2 : Region :=
  { Region.reset with
    enabled := true, windowBase := 0x320000, windowLength := 8, base := 600, pitch := 3, width := 10, height := 3, format := .p4 }

/-- A MAPPED P16 region of 3 columns and 1 row: the second pair of its second host word, 0x330004, is the tail. -/
def tailPair : Region :=
  { Region.reset with enabled := true, windowBase := 0x330000, windowLength := 2, base := 700, pitch := 3, width := 3, height := 1 }

/-- The last host words of the two windows. -/
def lastOf2 : BitVec 22 := 0xC8007
def lastOf5 : BitVec 22 := 0xCC001

/-- Region 2 with its pixels 28 and 29 in lanes 0 and 1 and its tail in lanes 2 and 3, the latch empty or with the pixels' word. -/
theorem witness_MappedClaimFormsItsPixelList :
    (∀ ral ∈ [(⟨none, none⟩ : Ral), ⟨some ⟨608, 0x1234⟩, none⟩],
      let s := { withRegionAt 2 tail2 with ral := ral }
      Quiet s ∧ s.hpc.state = .idle ∧ s.cmu.restarting = false ∧ (0xF : BitVec 4) ≠ 0 ∧ (0xC : BitVec 4) ≠ 0
        ∧ LowestCovering s (4 * lastOf2.toNat) 2 ∧ (s.rt[2]).kind = .mapped ∧ (s.rt[2]).access = .rw ∧ (s.rt[2]).format ≠ .p16)
    ∧ tail2.enableChecks 65536 = true ∧ (4 * lastOf2.toNat + 1 - tail2.windowBase) / tail2.format.hostBytes = 29
    ∧ (4 * lastOf2.toNat + 2 - tail2.windowBase) / tail2.format.hostBytes = tail2.width * tail2.height
    ∧ (tail2.translate ⟨28 % 10, 28 / 10⟩).word = 608 ∧ (tail2.translate ⟨29 % 10, 29 / 10⟩).word = 608
    ∧ (let s := withRegionAt 5 tailPair
       Quiet s ∧ LowestCovering s (4 * lastOf5.toNat) 5 ∧ (s.rt[5]).kind = .mapped ∧ (s.rt[5]).format = .p16
        ∧ (0xF : BitVec 4).getLsbD 0 = (0xF : BitVec 4).getLsbD 1 ∧ (0xC : BitVec 4).getLsbD 0 = (0xC : BitVec 4).getLsbD 1
        ∧ (0xC : BitVec 4).getLsbD 2 = (0xC : BitVec 4).getLsbD 3)
    ∧ tailPair.enableChecks 65536 = true := by
  and_intros <;> decide

/-- R39, R40, R61: the same write leaves pixels 28 and 29 in its list and drops the tail; the tail alone is answered with nothing placed. -/
theorem test_mapped_tail_write :
    let t := after (.hostRequest true lastOf2 0xF 0x04030201) (withRegionAt 2 tail2)
    let u := after (.hostRequest true lastOf2 0xC 0x04030201) (withRegionAt 2 tail2)
    (t.mb[0]).map (fun e => (e.word, e.operand, e.coverage)) = some (608, 0x0021, 0x3) ∧ t.hpc.hdone = true
      ∧ u.mb[0] = none ∧ u.hpc.hdone = true := by decide

theorem witness_HostRequestFrame : Quiet fullQueue ∧ ∃ e ∈ fullQueue.mb[7], e.isOpen = false := ⟨by decide, _, rfl, rfl⟩

/-- A P8 REPLACE pixel with value 0x5A. -/
def pixelAt (word slot : Nat) : Pixel := ⟨slot, word, slot, .p8, .replace, .pass, some 0x5A⟩

/-- Entry 3 is OPEN for word 40 with slot 0 covered: slot 1 completes it, slot 0 does not. -/
def open3 : State := withEntry 3 (entryIn (.opened (.count 2)) 40)

theorem witness_PixelMergesIntoItsEntry :
    OneOpenPerWord open3 ∧ (pixelAt 40 1).value = some 0x5A ∧ open3.mb[3] = some (entryIn (.opened (.count 2)) 40)
      ∧ (entryIn (.opened (.count 2)) 40).isOpen = true ∧ (pixelAt 40 1).format = .p8 ∧ (pixelAt 40 1).op = .replace
      ∧ withCovered 1 1 = BitVec.ofNat 16 (2 ^ Format.ppw .p8 - 1) ∧ withCovered 1 0 ≠ BitVec.ofNat 16 (2 ^ Format.ppw .p8 - 1) := by decide

theorem witness_PixelOpensAnEntryOrWaits :
    (OneOpenPerWord open3 ∧ (pixelAt 41 0).value = some 0x5A ∧ NotOpenFor open3 41 ∧ LowestFreeIs open3 0)
    ∧ (open3.mb[3] = some (entryIn (.opened (.count 2)) 40) ∧ Format.p8 ≠ .p4 ∧ RasterOp.replace ≠ .toggle)
    ∧ (let s := allEntries .closed
       OneOpenPerWord s ∧ NotOpenFor s 41 ∧ (∀ k : Fin 8, s.mb[k] ≠ none) ∧ ∀ i : Fin 8, ∀ e ∈ s.mb[i], e.isOpen = false)
    ∧ (let s := allEntries (.opened .atAnswer)
       OneOpenPerWord s ∧ NotOpenFor s 41 ∧ (∀ k : Fin 8, s.mb[k] ≠ none) ∧ ∃ i : Fin 8, (s.mb[i]).any Entry.isOpen = true) := by decide

theorem witness_GatherReadsBehindTheEntries :
    (OneOpenPerWord open3 ∧ (∃ e ∈ open3.mb[3], e.isOpen = true ∧ e.word = 40) ∧ open3.ral.latch.map Latch.word ≠ some 40)
      ∧ (let s := { State.reset with ral := ⟨some ⟨40, 0x1234⟩, none⟩ }
         OneOpenPerWord s ∧ s.ral.latch = some ⟨40, 0x1234⟩)
      ∧ ([41, 40, 41, 40] : List Nat).eraseDups = [41, 40] :=
  ⟨⟨by decide, ⟨_, rfl, rfl, rfl⟩, by decide⟩, by decide, by decide⟩

/-- A gather of two pixels, in lanes 0 and 3, with the words 8133 and 8134 returned. -/
def twoLanes : Gather :=
  ⟨.p8, [.pixel 0 8133 0 0 .done, .pixel 3 8134 1 1 .done, .tail 1], [⟨8133, .returned 0x4C1F⟩, ⟨8134, .latchHit 0x0077⟩]⟩

theorem witness_ReadDataIsAssembledByLanes :
    ([0, 3, 1] : List Nat).Nodup ∧ twoLanes.format ≠ .p16 ∧ PixelSlot.pixel 3 8134 1 1 .done ∈ twoLanes.pixels
      ∧ (twoLanes.words[1]?).bind WordSlot.data? = some 0x0077 ∧ PixelSlot.pixel 2 8134 1 1 .done ∉ twoLanes.pixels := by decide

/-- A read of region 1 in GATHERING with its one word returned, and this state of the latch. -/
def streamRead (r : Region) (ral : Ral) : State :=
  { gathering (.returned 0x4C1F) .done [] with
    hpc := ⟨.gathering, some ⟨.read, 0x700000, 1, 0, some (.region 1), some r, [], 0⟩, false, false, 0⟩
    rt := State.reset.rt.set 1 r
    ral := ral }

theorem witness_CompleteReadIsAnswered :
    (let s := gathering (.returned 0x4C1F) .done []
     s.inp.rstn = true ∧ s.hpc.state = .gathering ∧ s.rg = some ⟨.p8, [.pixel 0 8 0 0 .done], [⟨8, .returned 0x4C1F⟩]⟩
      ∧ (∀ x ∈ [(⟨8, .returned 0x4C1F⟩ : WordSlot)], x.isQueued = false)
      ∧ s.hpc.access = some ⟨.read, 16, 1, 0, some .pass, none, [], 0⟩)
    ∧ (let s := streamRead stream1 ⟨none, none⟩
       s.inp.rstn = true ∧ s.hpc.state = .gathering ∧ s.hpc.access.bind AccessRecord.claimant = some (.region 1)
        ∧ s.hpc.access.bind AccessRecord.snapshot = some stream1 ∧ stream1.kind = .stream
        ∧ stream1.readAhead = true ∧ stream1.revisit = false ∧ s.cmu.restarting = false ∧ (s.rt[1]).enabled = true
        ∧ (s.rt[1]).kind = .stream ∧ s.ral.prefetch = none ∧ s.ral.latch.map Latch.word ≠ some ((s.rt[1]).translate (s.rt[1]).cursor).word
        ∧ NotOpenFor s ((s.rt[1]).translate (s.rt[1]).cursor).word ∧ OneOpenPerWord s)
    ∧ (let s := { streamRead stream1 ⟨none, none⟩ with mb := State.reset.mb.set 2 (some (entryIn (.opened .atAnswer) 8133)) }
       OneOpenPerWord s ∧ (∃ e ∈ s.mb[2], e.isOpen = true ∧ e.word = ((s.rt[1]).translate (s.rt[1]).cursor).word))
    ∧ (streamRead stream1 ⟨some ⟨8133, 0⟩, none⟩).ral.latch.map Latch.word = some (stream1.translate stream1.cursor).word :=
  ⟨by decide, by decide, ⟨by decide, _, rfl, rfl, by decide⟩, by decide⟩

theorem witness_HreqLowEndsTheAnswerOnly :
    (Quiet answeredState ∧ answeredState.hpc.state = .answered)
      ∧ Quiet { restarting State.reset with hpc := ⟨.deferred, none, false, false, 0⟩ }
      ∧ Quiet (gathering .queued .wait [.gather 8 0 .pass]) := by decide

/-- A write in PLACING whose one pixel waits, with e0 in use. -/
def waiting : State :=
  { withEntry 0 (entryIn .closed 500) with
    mq := [.entry 0]
    hpc := ⟨.placing, some ⟨.write, 1400, 1, 0x5A, some .pass, none, [.pixel (pixelAt 700 0)], 0⟩, false, false, 0⟩ }

theorem witness_WaitingPixelOpensTheFreedEntry :
    waiting.inp.rstn = true ∧ waiting.hpc.state = .placing
      ∧ waiting.hpc.access = some ⟨.write, 1400, 1, 0x5A, some .pass, none, [] ++ [.pixel (pixelAt 700 0)], ([] : List ListEntry).length⟩
      ∧ (pixelAt 700 0).value = some 0x5A ∧ LowestFreeIs waiting 1 ∧ NotOpenFor waiting 700 ∧ 1 ≤ waiting.cmu.settings.idleDelay
      ∧ NoneAtAnswer waiting ∧ waiting.cmu.restarting = false
      ∧ withCovered 0 0 ≠ BitVec.ofNat 16 (2 ^ Format.ppw .p8 - 1) := by decide

/-- A write in PLACING of two pixels, the first of them to be handed on next. -/
def twoPixels : AccessRecord := ⟨.write, 1400, 3, 0x5A5A, some .pass, none, [.pixel (pixelAt 700 0), .pixel (pixelAt 701 1)], 0⟩

/-- A pixel that is taken, one that waits, and the end of the list with an idle close delay of 0 and with RESTART in progress. -/
theorem witness_PlacingHandsThePixelsOn :
    (let s := { waiting with hpc := ⟨.placing, some twoPixels, false, false, 0⟩ }
     s.inp.rstn = true ∧ s.hpc.state = .placing ∧ s.hpc.access = some twoPixels ∧ twoPixels.next < twoPixels.list.length
      ∧ s.mb[(1 : Fin 8)] = none ∧ twoPixels.list[twoPixels.next]? = some (.pixel (pixelAt 700 0))
      ∧ ∃ u, placePixel s (pixelAt 700 0) = .accepted u)
    ∧ (∃ u, placePixel (allEntries .closed) (pixelAt 700 0) = .waits u)
    ∧ (let s := allEntries (.opened .atAnswer)
       { twoPixels with next := 2 }.list.length ≤ 2 ∧ s.cmu.restarting = false
        ∧ (s.mb[7]).any Entry.isAtAnswer = true ∧ (restarting s).cmu.restarting = true) :=
  ⟨⟨rfl, rfl, rfl, by decide, by decide, by decide, _, rfl⟩, ⟨_, rfl⟩, by decide⟩

/-- R60, R94: two pixels of one write, with an idle close delay of 0, open two entries that close at the answer. -/
theorem test_two_pixels_close_at_the_answer :
    let s := { State.reset with cmu := { Cmu.reset with settings := { Cmu.reset.settings with idleDelay := 0 } } }
    let t := after (.hostRequest true 0 0xF 0x04030201) s
    t.mq = [.entry 0, .entry 1] ∧ t.hpc.hdone = true
      ∧ (after (.hostRequest true 0 0x5 0x04030201) s).mq = [.entry 0, .entry 1] := by decide

/-! ## Witnesses: timers and sequencer -/

theorem witness_IdleExpiryClosesTheEntry :
    (Quiet open3 ∧ open3.mb[3] = some (entryIn (.opened (.count 2)) 40))
      ∧ Quiet fullQueue ∧ ∀ e ∈ fullQueue.mb[7], ∀ n ∈ [0, 1], e.state ≠ .opened (.count n) := by decide

/-- One CLOSED P4 entry with this coverage, its item at the head. -/
def closedP4 (coverage : BitVec 16) : State :=
  withQueue (withEntry 2 { entryIn .closed 40 with format := .p4, coverage := coverage }) [.entry 2]

theorem witness_HeadItemIsBegun :
    (Quiet (closedP4 3) ∧ (closedP4 3).msq.state = .idle ∧ (closedP4 3).inp.mrdy = false ∧ HeadAllowed (closedP4 3)
      ∧ (closedP4 3).mq = .entry 2 :: [] ∧ ((closedP4 3).mb[2]).isSome = true ∧ ∀ b, byteClass .p4 3 b ≠ .partly)
    ∧ (Quiet (closedP4 1) ∧ HeadAllowed (closedP4 1) ∧ byteClass .p4 1 .low = .partly)
    ∧ (let s := gathering .queued .wait [.gather 8 0 .pass]
       Quiet s ∧ s.msq.state = .idle ∧ s.inp.mrdy = false ∧ HeadAllowed s)
    ∧ (Quiet prefetching ∧ prefetching.msq.state = .idle ∧ HeadAllowed prefetching)
    ∧ (let s := { prefetching with hld := ⟨.pending .drainFirst, some 1⟩ }
       Quiet s ∧ HeadAllowed s)
    ∧ (let s := { prefetching with hld := ⟨.pending .drainFirst, some 0⟩, msq := { Msq.reset with state := .recover, timer := some 16 } }
       Quiet s ∧ ¬ HeadAllowed s)
    ∧ Quiet State.reset ∧ State.reset.mq = [] := by
  and_intros <;> first | decide | (intro b; cases b <;> decide)

/-- Entry 2 ACTIVE in this phase with its operation's ready step. -/
def activeWith (st : MsqState) (p : Phase) (kind : OpKind) (step : OpStep) : State :=
  withOp (withQueue (withEntry 2 (entryIn (.active p) 40)) [.entry 2]) st (.entry 2) 40 kind step

/-- The READ item of a gather, or of a prefetch, in flight. -/
def readInFlight (step : OpStep) : State := withOp (gathering .queued .wait [.gather 8 0 .pass]) .reading (.gather 8 0 .pass) 8 .read step
def prefetchInFlight : State := withOp prefetching .reading (.prefetch 8165 (.region 1)) 8165 .read .ready

theorem witness_MemoryOperationCompletes :
    (let s := activeWith .writing .strobeWrite .strobeWrite .ready
     Quiet s ∧ s.mq = .entry 2 :: [] ∧ s.mb[2] = some (entryIn (.active .strobeWrite) 40) ∧ s.msq.state = .writing
      ∧ s.msq.op = some ⟨.entry 2, 40, .strobeWrite, .ready⟩)
    ∧ (let s := activeWith .writing .rmwWrite (.rmw (some 7)) .ready
       Quiet s ∧ s.msq.state = .writing ∧ s.msq.op = some ⟨.entry 2, 40, .rmw (some 7), .ready⟩)
    ∧ (let s := activeWith .reading .rmwRead (.rmw none) .ready
       Quiet s ∧ s.msq.state = .reading ∧ s.msq.op = some ⟨.entry 2, 40, .rmw none, .ready⟩)
    ∧ (let s := readInFlight .ready
     Quiet s ∧ s.msq.state = .reading ∧ s.msq.op = some ⟨.gather 8 0 .pass, 8, .read, .ready⟩ ∧ s.mq = .gather 8 0 .pass :: []
      ∧ s.rg = some ⟨.p8, [.pixel 0 8 0 0 .wait], [⟨8, .queued⟩]⟩)
    ∧ Quiet prefetchInFlight ∧ prefetchInFlight.msq.op = some ⟨.prefetch 8165 (.region 1), 8165, .read, .ready⟩
      ∧ prefetchInFlight.mq = .prefetch 8165 (.region 1) :: [] ∧ prefetchInFlight.ral.prefetch = some ⟨8165, false⟩ := by decide

theorem witness_ReleaseReturnsToIdleOrWrites :
    (let s := activeWith .reading .rmwWrite (.rmw (some 7)) .release
     Quiet s ∧ s.msq.op = some ⟨.entry 2, 40, .rmw (some 7), .release⟩ ∧ s.msq.state = .reading)
    ∧ (Quiet (readInFlight .release) ∧ (readInFlight .release).msq.op = some ⟨.gather 8 0 .pass, 8, .read, .release⟩)
    ∧ (let s := withOp State.reset .writing (.entry 2) 40 .strobeWrite .release
       Quiet s ∧ s.msq.state = .writing) := by decide

theorem witness_FirstExpiryEndsTheOperation :
    (∀ s ∈ [activeWith .writing .strobeWrite .strobeWrite .ready, activeWith .reading .rmwRead (.rmw none) .ready,
        activeWith .reading .rmwWrite (.rmw (some 7)) .release, activeWith .writing .rmwWrite (.rmw (some 7)) .ready],
      Quiet s ∧ (s.msq.state = .reading ∨ s.msq.state = .writing) ∧ s.mq = .entry 2 :: [] ∧ (s.mb[2]).isSome = true)
    ∧ (Quiet (readInFlight .ready) ∧ (readInFlight .ready).rg = some ⟨.p8, [.pixel 0 8 0 0 .wait], [⟨8, .queued⟩]⟩)
    ∧ (Quiet prefetchInFlight ∧ prefetchInFlight.ral.prefetch.isSome = true)
    ∧ ∀ s ∈ [readInFlight .release, withOp State.reset .writing (.entry 2) 40 .strobeWrite .release,
        withOp State.reset .writing (.entry 2) 40 (.rmw (some 7)) .release], Quiet s ∧ s.msq.op.isSome = true := by decide

/-- The ready timer of an operation at 1, at 0 and at 2, with no command waiting. -/
theorem witness_FirstExpiryEndsTheOperation_timer :
    ∀ n ∈ [0, 1, 2], ∀ b ∈ [readInFlight .ready, activeWith .writing .strobeWrite .strobeWrite .ready],
      let s := { b with msq := { b.msq with timer := some n } }
      Quiet s ∧ (s.msq.state = .reading ∨ s.msq.state = .writing) ∧ s.msq.op.isSome = true ∧ s.pending = [] ∧ s.msq.timer = some n
        ∧ s.inp.hreq = false ∧ s.hpc.hdone = false ∧ HostLinesOk s ∧ NoneCounting s := by decide

/-- The MSQ in RECOVER or STUCK. -/
def inState (s : State) (st : MsqState) (of : Option (Nat × Direction)) : State :=
  { s with msq := { Msq.reset with state := st, timer := if st = .recover then some 16 else none, stuckOf := of } }

theorem witness_RecoverEndsInIdleOrStuck :
    (∀ s ∈ [inState State.reset .recover none, inState State.reset .recover (some (300, .write))], Quiet s ∧ s.msq.state = .recover)
      ∧ (∀ n ∈ [0, 1, 2], ∀ b ∈ [inState State.reset .recover none],
        let s := { b with msq := { b.msq with timer := some n } }
        Quiet s ∧ s.msq.state = .recover ∧ s.pending = [] ∧ s.msq.timer = some n ∧ s.inp.hreq = false ∧ s.hpc.hdone = false
          ∧ HostLinesOk s ∧ NoneCounting s)
      ∧ (Quiet State.reset ∧ State.reset.msq.state = .idle)
      ∧ (Quiet (inState State.reset .stuck none) ∧ (inState State.reset .stuck none).msq.state = .stuck)
      ∧ (Quiet (heldWith 2) ∧ (heldWith 2).msq.state = .held)
      ∧ Quiet (readInFlight .ready) ∧ (readInFlight .ready).msq.state = .reading := by decide

/-- R144 before R53: in a CLK period in which a drop in STUCK brings the drain mark to 0, the port is granted and the latch gone before the
request that stands at the pins is taken. -/
theorem test_grant_before_the_request :
    let b := inState (closedP4 1) .stuck none
    let t := afterStep
      { b with
        inp := { b.inp with mrdy := true, mhold := true, hreq := true, lines := ⟨false, 4, 1, 0⟩ }
        hld := ⟨.pending .drainFirst, some 1⟩
        ral := ⟨some ⟨8, 0x4C1F⟩, none⟩ }
    t.mhlda = true ∧ t.ral.latch = none ∧ t.mq = [.gather 8 0 .pass] ∧ t.hpc.hdone = false := by decide

theorem witness_StuckDropsTheHeadItem :
    (let s := inState (closedP4 1) .stuck none
     Quiet s ∧ s.msq.state = .stuck ∧ HeadAllowed s ∧ s.mq = .entry 2 :: [] ∧ (s.mb[2]).isSome = true)
    ∧ (let s := inState (gathering .queued .wait [.gather 8 0 .pass]) .stuck none
       Quiet s ∧ s.msq.state = .stuck ∧ s.rg = some ⟨.p8, [.pixel 0 8 0 0 .wait], [⟨8, .queued⟩]⟩)
    ∧ (let s := inState prefetching .stuck none
       Quiet s ∧ s.msq.state = .stuck ∧ s.ral.prefetch.isSome = true) := by decide

/-- No quiet state in STUCK keeps a request PENDING, so the head item is kept back only in a state no run reaches: the drain mark absent. -/
theorem witness_StuckDropsTheHeadItem_not_allowed :
    let s := { inState prefetching .stuck none with hld := ⟨.pending .drainFirst, none⟩ }
    Quiet s ∧ s.msq.state = .stuck ∧ ¬ HeadAllowed s := by decide

/-! ## Witnesses: the hold -/

/-- The hold policy DRAIN_FIRST. -/
def drainFirst (s : State) : State := { s with cmu := { s.cmu with settings := { s.cmu.settings with holdPolicy := .drainFirst } } }

theorem witness_PortIsRequestedGrantedAndReleased :
    ((Quiet State.reset ∧ State.reset.hld.state = .none ∧ State.reset.cmu.settings.holdPolicy = .immediate)
      ∧ Quiet (drainFirst open3) ∧ (drainFirst open3).hld.state = .none ∧ (drainFirst open3).cmu.settings.holdPolicy = .drainFirst)
    ∧ (∀ s ∈ [{ State.reset with hld := ⟨.pending .immediate, none⟩ }, { State.reset with hld := ⟨.pending .drainFirst, some 0⟩ },
        { inState State.reset .stuck none with hld := ⟨.pending .immediate, none⟩ }],
      s.inp.rstn = true ∧ (s.msq.state = .idle ∨ s.msq.state = .stuck) ∧ (s.hld.state = .pending .drainFirst → s.hld.drainMark = some 0))
    ∧ (let s := { inState State.reset .recover none with hld := ⟨.pending .drainFirst, some 0⟩ }
       Quiet s ∧ s.hld.state = .pending .drainFirst ∧ s.msq.state ≠ .idle)
    ∧ (let s := { closedP4 1 with hld := ⟨.pending .drainFirst, some 1⟩ }
       Quiet s ∧ s.hld.state = .pending .drainFirst ∧ s.msq.state = .idle ∧ s.inp.mrdy = false ∧ s.mq ≠ [])
    ∧ Quiet (heldWith 2) ∧ (heldWith 2).hld.state = .granted .immediate := by decide

/-- R147: from IDLE the head item is begun in the withdrawal event, and a request raised right after it waits for its operation. -/
theorem test_withdrawal_begins_the_head_item :
    let t := after .holdWithdraw { closedP4 1 with hld := ⟨.pending .drainFirst, some 1⟩ }
    let u := after .holdGrant (after .holdRequest t)
    t.msq.state = .reading ∧ t.mcs = true ∧ t.hld = ⟨.none, none⟩ ∧ u.hld = ⟨.pending .immediate, none⟩ ∧ u.mhlda = false := by decide

/-! ## Witnesses: the link -/

/-- The link in this frame state with this many bits of the byte. -/
def frameIn (st : FrameState) (bitCount : Nat) (out : List Bool) : State :=
  { State.reset with cfl := { Cfl.reset with state := st, bitCount := bitCount, out := out } }

theorem witness_FrameLinesAndEdges :
    (∀ st ∈ [FrameState.idle, .waitDeselect, .command, .parameters, .result, .response, .trailer], Quiet (frameIn st 6 [true, false]))
      ∧ (∀ n ∈ [6, 7], Quiet (frameIn .trailer n []) ∧ (frameIn .trailer n []).cfl.state = .trailer)
      ∧ (frameIn .command 6 []).cfl.bitCount < 7 ∧ (frameIn .response 6 [true, false]).cfl.out.length ≠ 1
      ∧ (∀ st ∈ [FrameState.command, .parameters, .result, .response], Quiet (frameIn st 7 [true, false]) ∧ (frameIn st 7 [true, false]).cfl.bitCount = 7)
      ∧ (let c := { frameIn .command 7 [] with cfl := { Cfl.reset with state := .command, bitCount := 7, shifter := 0x18 } }
         Quiet c ∧ LinkCommand.ofCode ((c.cfl.shifter <<< 1) ||| 0#8) = some .enable ∧ LinkCommand.enable.paramBytes ≠ 0)
      ∧ (let c := { frameIn .parameters 7 [] with cfl := { Cfl.reset with state := .parameters, bitCount := 7, code := some .setTiming } }
         Quiet c ∧ c.cfl.code = some .setTiming ∧ LinkCommand.setTiming.paramBytes ≠ c.cfl.params.length + 1)
      ∧ (frameIn .result 7 [true]).cfl.out.length = 1 ∧ 1 < (frameIn .result 7 [true, false]).cfl.out.length
      ∧ Quiet (frameIn .response 7 [true]) ∧ (frameIn .response 7 [true]).cfl.out.length = 1
      ∧ (frameIn .response 7 [true]).cfl.report = .plain := by
  and_intros <;> decide

/-- R151: the eighth bit of RESULT goes to RESPONSE after READ_STATUS and to TRAILER after a command without a response. -/
theorem test_after_the_result_byte :
    let u := after (.lclkRisingEdge true) (frameIn .result 7 (List.replicate 65 true))
    u.cfl.state = .response ∧ u.cfl.out.length = 64
      ∧ (after (.lclkRisingEdge true) (frameIn .result 7 [true])).cfl.state = .trailer := by decide

/-- The shortest and the longest command. -/
theorem witness_FrameDeliversItsCommand :
    Quiet (frameIn .idle 0 []) ∧ (frameIn .idle 0 []).cfl.state = .idle
      ∧ LinkCommand.ofCode 0x01 = some .readStatus ∧ ([] : List Byte).length = LinkCommand.readStatus.paramBytes
      ∧ LinkCommand.ofCode 0x11 = some .setSurface ∧ (List.replicate 11 (0xFF : Byte)).length = LinkCommand.setSurface.paramBytes := by decide

theorem witness_ResponseBitsAreDrivenInOrder :
    Quiet (frameIn .result 0 (List.replicate 72 true)) ∧ (frameIn .result 0 (List.replicate 72 true)).cfl.out.length = 8 + 8 * 8
      ∧ (List.replicate 71 false).length < 72 ∧ (frameIn .result 0 (List.replicate 8 true)).cfl.out.length = 8 + 8 * 0 := by decide

theorem witness_ApplyPointDecidesTheCommand :
    (let s := { State.reset with cfl := { Cfl.reset with state := .command, bitCount := 7, shifter := 0x7F } }
     Quiet s ∧ s.cfl.state = .command ∧ s.cfl.bitCount = 7 ∧ LinkCommand.ofCode ((s.cfl.shifter <<< 1) ||| 1#8) = none)
    ∧ (let s := linkAt (restarting State.reset) .setTiming 0x41 [4, 0, 16]
       Quiet s ∧ AtApply s .setTiming [4, 0, 16] false ∧ s.cmu.restarting = true)
    ∧ (let s := linkAt State.reset .enable 0x30 [8]
       Quiet s ∧ AtApply s .enable [8] false ∧ s.cmu.restarting = false ∧ 7 < paramNumber [8] 0 1) := by decide

theorem witness_ReadCommandsReport :
    (Quiet (linkAt State.reset .readStatus 0x01 []) ∧ AtApply (linkAt State.reset .readStatus 0x01 []) .readStatus [] true)
    ∧ (Quiet (linkAt fullLog .readFault 0x02 []) ∧ AtApply (linkAt fullLog .readFault 0x02 []) .readFault [] false)
    ∧ (let s := linkAt twoRegions .readRegion 0x03 [7]
       Quiet s ∧ AtApply s .readRegion [7] true ∧ s.cmu.restarting = false ∧ paramNumber [7] 0 1 = (7 : Fin 8).val) := by decide

theorem witness_ResponsesReadBack :
    SettingsOk fullQueue ∧ LogOk fullQueue ∧ fullQueue.mq.length ≤ 13 ∧ countActive fullQueue ≤ 1
      ∧ State.reset.flog.records = []
      ∧ (∀ r ∈ [(⟨.unclaimed, none, .read, some 0xFFFFFC, none, none⟩ : FaultRecord),
          ⟨.droppedStuck, some .pass, .read, none, some 1048575, some .prefetch⟩],
        (Flog.mk (List.replicate 4 r) true).records = r :: List.replicate 3 r ∧ (Flog.mk (List.replicate 4 r) true).records.length ≤ 4
          ∧ (∀ a ∈ r.hostAddress, a < 16777216) ∧ ∀ w ∈ r.wordAddress, w < 1048576)
      ∧ (twoRegions.rt[1]).inRange ∧ (twoRegions.rt[1]).cursorOk ∧ (twoRegions.rt[1]).mark = some ⟨12, 5⟩
      ∧ mapped4.inRange ∧ mapped4.cursorOk ∧ mapped4.mark = none := by
  and_intros <;> decide

theorem witness_FaultReportCompletes :
    ∀ r ∈ [none, some (⟨.unclaimed, none, .read, some 0x300000, none, none⟩ : FaultRecord)],
      let s := { fullLog with cfl := { Cfl.reset with state := .response, byteCount := 11, bitCount := 7, out := [true], report := .fault r } }
      Quiet s ∧ s.cfl.state = .response ∧ s.cfl.out = [true] ∧ s.cfl.report = .fault r := by decide

/-- A command with its parameter bytes is at its apply point on a quiet state outside RESTART, and names this region. -/
abbrev Ready (s : State) (k : LinkCommand) (code : Byte) (params : List Byte) (n : Fin 8) : Prop :=
  let u := linkAt s k code params
  Quiet u ∧ u.cmu.restarting = false ∧ paramNumber params 0 1 = n.val ∧ AtApply u k params ((params.getLastD 0).getLsbD 0)

theorem witness_DefinitionCommandsWriteTheirFields :
    Ready twoRegions .setWindow 0x10 [4, 0, 0, 0, 0, 0, 1] 4 ∧ (twoRegions.rt[4]).enabled = true
      ∧ Ready twoRegions .setWindow 0x10 [0, 0xFF, 0xFF, 0xFC, 0x40, 0, 0] 0 ∧ (twoRegions.rt[0]).enabled = false
      ∧ Ready twoRegions .setWindow 0x10 [0, 0xFF, 0xFF, 0xFD, 0, 0, 1] 0
      ∧ Ready twoRegions .setSurface 0x11 [4, 0, 0, 0, 0, 1, 0, 1, 0, 1, 4] 4
      ∧ Ready twoRegions .setSurface 0x11 [0, 0x0F, 0xFF, 0xFF, 0x10, 0, 0x10, 0, 0x10, 0, 4] 0 ∧ Format.p16.code = 4
      ∧ Ready twoRegions .setSurface 0x11 [0, 0, 0, 0, 0, 0, 0, 1, 0, 1, 5] 0
      ∧ Ready twoRegions .setMode 0x12 [4, 0, 0] 4 ∧ Ready twoRegions .setMode 0x12 [0, 0x1D, 0x0F] 0
      ∧ Access.wo.code = (((0x1D : Byte) >>> 1) &&& 3#8).toNat ∧ RasterOp.toggle.code = (((0x1D : Byte) >>> 3) &&& 3#8).toNat
      ∧ Ready twoRegions .setMode 0x12 [0, 0x06, 0] 0 ∧ ((0x06 : Byte) >>> 1) &&& 3#8 = 3#8
      ∧ Ready twoRegions .setBand 0x13 [4, 0, 0, 0, 0] 4 ∧ Ready twoRegions .setBand 0x13 [0, 0x0F, 0xFF, 0x10, 0] 0
      ∧ Ready twoRegions .setBand 0x13 [0, 0, 0, 0, 1] 0 := by
  and_intros <;> decide

theorem witness_ScrollAndCursorWindowAreSet :
    Ready twoRegions .setScroll 0x20 [4, 0, 19] 4 ∧ Ready twoRegions .setScroll 0x20 [4, 0, 20] 4
      ∧ (twoRegions.rt[4]).enabled = true ∧ (twoRegions.rt[4]).bandRows = 20 ∧ Ready twoRegions .setScroll 0x20 [0, 0x10, 0] 0
      ∧ Ready twoRegions .setScroll 0x20 [0, 0x0F, 0xFF] 0
      ∧ Ready twoRegions .setCursorWindow 0x21 [4, 0, 0, 0, 0, 0, 0, 0, 0] 4 ∧ (twoRegions.rt[4]).kind = .mapped
      ∧ Ready twoRegions .setCursorWindow 0x21 [1, 0, 0, 0, 63, 0, 0, 0, 31] 1 ∧ (twoRegions.rt[1]).kind = .stream
      ∧ Ready twoRegions .setCursorWindow 0x21 [1, 0, 0, 0, 64, 0, 0, 0, 31] 1
      ∧ Ready twoRegions .setCursorWindow 0x21 [1, 0, 2, 0, 1, 0, 0, 0, 0] 1 := by
  and_intros <;> decide

theorem witness_CursorIsSetInsideItsWindow :
    Ready twoRegions .setCursor 0x22 [4, 0, 0, 0, 0] 4 ∧ (twoRegions.rt[4]).kind = .mapped
      ∧ Ready twoRegions .setCursor 0x22 [1, 0, 12, 0, 5] 1 ∧ Ready twoRegions .setCursor 0x22 [1, 0, 13, 0, 5] 1
      ∧ (twoRegions.rt[1]).kind = .stream ∧ (twoRegions.rt[1]).x1 = 12 ∧ (twoRegions.rt[1]).y1 = 5 := by
  and_intros <;> decide

theorem witness_RevisitModeBeginsAndEnds :
    Ready twoRegions .revisitBegin 0x23 [4] 4 ∧ Ready twoRegions .revisitBegin 0x23 [1] 1 ∧ (twoRegions.rt[1]).revisit = true
      ∧ Ready (withRegionAt 1 stream1) .revisitBegin 0x23 [1] 1 ∧ stream1.enabled = true ∧ stream1.revisit = false
      ∧ Ready twoRegions .revisitEnd 0x24 [4] 4 ∧ (twoRegions.rt[4]).kind = .mapped
      ∧ Ready (withRegionAt 1 stream1) .revisitEnd 0x24 [1] 1 ∧ stream1.kind = .stream
      ∧ Ready twoRegions .revisitEnd 0x24 [1] 1 ∧ (twoRegions.rt[1]).enabled = true ∧ (twoRegions.rt[1]).mark = some ⟨12, 5⟩ := by
  and_intros <;> decide

theorem witness_RegionsAreEnabledAndDisabled :
    Ready twoRegions .enable 0x30 [4] 4 ∧ (twoRegions.rt[4]).enabled = true
      ∧ Ready twoRegions .enable 0x30 [0] 0 ∧ (twoRegions.rt[0]).enabled = false ∧ (twoRegions.rt[0]).enableChecks 1048576 = false
      ∧ Ready (withRegionAt 4 { mapped4 with enabled := false }) .enable 0x30 [4] 4
      ∧ { mapped4 with enabled := false }.enableChecks (65536 * 16) = true
      ∧ Ready twoRegions .disable 0x31 [1] 1 ∧ Ready twoRegions .disable 0x31 [0] 0 := by
  and_intros <;> decide

theorem witness_TimingIsSet :
    (∀ p ∈ ([[255, 0, 16], [0, 0x0F, 0xFF], [4, 0, 15], [4, 0x10, 0]] : List (List Byte)),
      let s := linkAt twoRegions .setTiming 0x41 p
      Quiet s ∧ s.cmu.restarting = false ∧ AtApply s .setTiming p ((p.getLastD 0).getLsbD 0))
    ∧ paramNumber [255, 0, 16] 1 2 = 16 ∧ paramNumber [0, 0x0F, 0xFF] 1 2 = 4095 ∧ paramNumber [4, 0, 15] 1 2 = 15
      ∧ paramNumber [4, 0x10, 0] 1 2 = 4096 := by decide

theorem witness_MemorySettingsAreSet :
    ∀ s ∈ [twoRegions, State.reset], ∀ p ∈ ([[16, 1, 1], [1, 0, 0], [17, 0, 0], [0, 0, 0], [1, 2, 0], [1, 0, 2]] : List (List Byte)),
      Quiet (linkAt s .setMemory 0x42 p) ∧ (linkAt s .setMemory 0x42 p).cmu.restarting = false
        ∧ AtApply (linkAt s .setMemory 0x42 p) .setMemory p ((p.getLastD 0).getLsbD 0) := by decide

theorem witness_FlushMarksTheQueue :
    (∀ s ∈ [linkAt open3 .flush 0x40 [], linkAt State.reset .flush 0x40 []],
      Quiet s ∧ s.cmu.restarting = false ∧ AtApply s .flush [] false)
    ∧ (let s := { State.reset with cmu := { Cmu.reset with flushDone := false, flushMark := some 0 } }
       s.inp.rstn = true ∧ s.cmu.flushDone = false ∧ s.cmu.flushMark = some 0) := by decide

/-- RESTART with nothing left to do, and the HPC in this state with a request at these lanes and this address on its lines. -/
def restartDone (st : HpcState) (lanes : BitVec 4) (a : BitVec 22) : State :=
  { State.reset with
    cmu := { Cmu.reset with restarting := true }
    inp := { Inputs.reset with hreq := true, lines := ⟨false, a, lanes, 0⟩ }
    hpc := ⟨st, none, false, false, 0⟩ }

theorem witness_RestartBeginsAndEnds :
    (let s := linkAt open3 .restart 0x4F []
     Quiet s ∧ s.cmu.restarting = false ∧ AtApply s .restart [] true)
    ∧ (∀ s ∈ [restartDone .answered 1 0, restartDone .deferred 0 0, restartDone .deferred 8 0x80000, restartDone .deferred 8 0x7FFFF],
      s.inp.rstn = true ∧ s.cmu.restarting = true ∧ (∀ i : Fin 8, s.mb[i] = none) ∧ s.mq = [] ∧ s.hpc.state ≠ .placing
        ∧ s.hpc.state ≠ .gathering ∧ s.inp.hreq = true)
    ∧ 2097152 ≤ 4 * (0x80000 : BitVec 22).toNat + 3
    ∧ (let l := (restartDone .deferred 8 0x7FFFF).inp.lines
       (restartDone .deferred 8 0x7FFFF).hpc = ⟨.deferred, none, false, false, 0⟩ ∧ l.hlane ≠ 0 ∧ 4 * l.ha.toNat + 3 < 2097152
        ∧ Quiet { restartDone .deferred 8 0x7FFFF with
          rt := Vector.replicate 8 Region.reset
          cmu := ⟨⟨16, true, .immediate, 4, 1024⟩, .ok, true, none, false⟩
          ral := ⟨none, none⟩
          hpc := ⟨.idle, none, false, false, 0⟩ }) := by
  and_intros <;> decide

end Sys2Proof.Tests
end

-- ==== Window decoding ====
section
/-! PROOFS. Window decoding (R30): what it means that a window or the aperture covers an address, when each claimant is named, and from
these the order of the claimants. -/

namespace Sys2Proof.Machine

/-- A region covers an address when it is ENABLED and window base ≤ A < window base + 4 × window length (R30). -/
theorem covers_iff {s : State} {a : Nat} {n : Fin 8} :
    covers s a n = true ↔
      (s.rt[n]).enabled = true ∧ (s.rt[n]).windowBase ≤ a ∧ a < (s.rt[n]).windowBase + 4 * (s.rt[n]).windowLength := by
  simp only [covers, Bool.and_eq_true, decide_eq_true_eq, and_assoc]
  rfl

/-- The aperture holds a host word when pass-through is ENABLED and the word's last byte lies in the memory (R30, R32). -/
theorem inAperture_iff {s : State} {a : Nat} :
    inAperture s a = true ↔ s.cmu.settings.passThrough = true ∧ a + 3 < 2 * (65536 * s.cmu.settings.memorySize) := by
  simp only [inAperture, Bool.and_eq_true, decide_eq_true_eq]
  rfl

/-- Where a region is the lowest that covers the address, it is the claimant (R30). -/
theorem claimantOf_of_lowestCovering {s : State} {a : Nat} {n : Fin 8} (h : LowestCovering s a n) :
    claimantOf s a = some (.region n) := by simp only [claimantOf, find_allEight.mpr h]

/-- Where no region covers the address, the aperture alone decides the claim (R30). -/
theorem claimantOf_of_not_covered {s : State} {a : Nat} (h : ∀ n, ¬ covers s a n = true) :
    claimantOf s a = if inAperture s a then some .pass else none := by
  have hnone : allEight.find? (covers s a) = none := by simpa using h
  simp only [claimantOf, hnone]

/-- Either some region is the lowest that covers the address, or none covers it. -/
theorem lowestCovering_or_not_covered (s : State) (a : Nat) :
    (∃ n, LowestCovering s a n) ∨ ∀ n, ¬ covers s a n = true := by
  cases hf : allEight.find? (covers s a) with
  | some n => exact .inl ⟨n, find_allEight.mp hf⟩
  | none => exact .inr (by simpa using hf)

/-- A region is the claimant exactly when it is the lowest that covers the address (R30). -/
theorem claimantOf_eq_region {s : State} {a : Nat} {n : Fin 8} :
    claimantOf s a = some (.region n) ↔ LowestCovering s a n := by
  refine ⟨fun h => ?_, claimantOf_of_lowestCovering⟩
  obtain ⟨m, hm⟩ | hfree := lowestCovering_or_not_covered s a
  · obtain rfl : m = n := by simpa [claimantOf_of_lowestCovering hm] using h
    exact hm
  · rw [claimantOf_of_not_covered hfree] at h
    split at h <;> cases h

/-- PASS is the claimant exactly when no region covers the address and the aperture holds the word (R30). -/
theorem claimantOf_eq_pass {s : State} {a : Nat} :
    claimantOf s a = some .pass ↔ (∀ n, ¬ covers s a n = true) ∧ inAperture s a = true := by
  obtain ⟨m, hm⟩ | hfree := lowestCovering_or_not_covered s a
  · simp only [claimantOf_of_lowestCovering hm, Option.some.injEq, reduceCtorEq, false_iff]
    exact fun h => h.1 m hm.1
  · simp [claimantOf_of_not_covered hfree, hfree]

/-- An access is unclaimed exactly when no region covers the address and the aperture does not hold the word (R30). -/
theorem claimantOf_eq_none {s : State} {a : Nat} :
    claimantOf s a = none ↔ (∀ n, ¬ covers s a n = true) ∧ ¬ inAperture s a = true := by
  obtain ⟨m, hm⟩ | hfree := lowestCovering_or_not_covered s a
  · simp only [claimantOf_of_lowestCovering hm, reduceCtorEq, false_iff]
    exact fun h => h.1 m hm.1
  · simp [claimantOf_of_not_covered hfree, hfree]

/-- Settles O20: each clause is the lemma on that claimant, with the window and the aperture spelled out. -/
theorem claimGoesToTheLowestRegionThenPass : Obligations.ClaimGoesToTheLowestRegionThenPass := by
  intro s a covering aperture
  have hcov (n : Fin 8) : covers s a n = true ↔ covering n := covers_iff
  have hap : inAperture s a = true ↔ aperture := inAperture_iff
  refine ⟨fun n => ?_, ?_, ?_⟩
  · simp only [claimantOf_eq_region, LowestCovering, ← Bool.not_eq_true, hcov]
  · simp only [claimantOf_eq_pass, hcov, hap]
  · simp only [claimantOf_eq_none, hcov, hap]

end Sys2Proof.Machine
end

-- ==== Host requests answered at once ====
section
/-! PROOFS. Requests that HOST_REQUEST answers in its own event: what the row does on a quiet state with the HPC in IDLE, what the HPC does
with the request it then sees, and what an answer and a refusal leave while HREQ is high (R48, R49, R51, R53, R54). -/

namespace Sys2Proof.Machine

/-! ## The row -/

/-- The state in which the HPC sees a request: HREQ high, the lines as the host drives them, and an earlier answer ended (R48). -/
def requestSeen (s : State) (l : HostLines) : State := endAnswer (driveRequest s l)

theorem requestSeen_eq (s : State) (l : HostLines) :
    requestSeen s l =
      { s with inp := { s.inp with hreq := true, lines := l }, hpc := ⟨s.hpc.state, s.hpc.access, false, false, 0⟩ } := rfl

@[simp] theorem requestSeen_hreq (s : State) (l : HostLines) : (requestSeen s l).inp.hreq = true := rfl
@[simp] theorem requestSeen_lines (s : State) (l : HostLines) : (requestSeen s l).inp.lines = l := rfl
@[simp] theorem requestSeen_cmu (s : State) (l : HostLines) : (requestSeen s l).cmu = s.cmu := rfl

/-- The WD reads the table and the settings alone, so a request's own lines do not move its claim (R30). -/
@[simp] theorem claimantOf_requestSeen (s : State) (l : HostLines) (a : Nat) : claimantOf (requestSeen s l) a = claimantOf s a := rfl

/-- On a quiet state with the HPC in IDLE the HPC sees the request in the row's own event (R48). -/
theorem exec_hostRequest_of_idle {s : State} (hq : Quiet s) (hi : s.hpc.state = .idle) (write : Bool) (a : BitVec 22) (lanes : BitVec 4)
    (d : HostWord) : exec (.hostRequest write a lanes d) s = .next (seeRequest (requestSeen s ⟨write, a, lanes, d⟩)) := by
  have hdue : takeDue s = s := takeDue_of_settled hq.2
  change execHostRequest write a lanes d s = _
  simp only [execHostRequest, hq.1, hdue, hi, if_true, requestSeen]

/-! ## The request seen -/

/-- With no lane enabled the request is answered normally, during RESTART too (R51). -/
theorem seeRequest_of_no_lanes {s : State} (h : s.inp.lines.hlane = 0) : seeRequest s = answer s false 0 := by
  simp [seeRequest, takeRequest, h]

/-- Outside RESTART the request is taken at once (R49, R53). -/
theorem seeRequest_of_not_restarting {s : State} (h : s.cmu.restarting = false) : seeRequest s = takeRequest s := by
  simp [seeRequest, h]

/-- With a lane enabled and no claimant, the access is refused with UNCLAIMED, which has no origin (R54). -/
theorem takeRequest_of_unclaimed {s : State} (hl : s.inp.lines.hlane ≠ 0) (hc : claimantOf s (4 * s.inp.lines.ha.toNat) = none) :
    takeRequest s = refuseAccess s (claimRecord s.inp.lines none none) .unclaimed none := by
  simp only [takeRequest, if_neg hl, hc]

/-! ## The answer -/

/-- While HREQ is high an answer takes the HPC to ANSWERED and keeps the access record (R48, R49). -/
theorem answer_of_hreq {s : State} (h : s.inp.hreq = true) (error : Bool) (data : HostWord) :
    answer s error data = { s with hpc := ⟨.answered, s.hpc.access, true, error, data⟩ } := by
  simp only [answer, h, if_true]

/-- While HREQ is high a refusal fills the access record, reports its fault and answers with an error; it leaves the rest (R54 to R56). -/
theorem refuseAccess_of_hreq {s : State} (h : s.inp.hreq = true) (a : AccessRecord) (kind : FaultKind) (origin : Option Origin) :
    refuseAccess s a kind origin =
      { s with
        hpc := ⟨.answered, some a, true, true, 0⟩
        flog := logged s.flog (hostFault kind origin a.direction a.address) } := by
  rw [refuseAccess, answer_of_hreq (by simpa using h), ← Flog.store_eq_logged]
  rfl

/-! ## The statements -/

/-- Settles O21: with no lane enabled the request seen is answered, and the answer changes the HPC alone. -/
theorem zeroLaneRequestIsAnswered : Obligations.ZeroLaneRequestIsAnswered := by
  intro s write a d hq hi
  rw [exec_hostRequest_of_idle hq hi, seeRequest_of_no_lanes (by simp), answer_of_hreq (requestSeen_hreq ..),
    requestSeen_eq]

/-- Settles O23: the request seen is taken, nobody claims it, and the refusal leaves all but the access record, the answer and the log. -/
theorem unclaimedRequestIsRefused : Obligations.UnclaimedRequestIsRefused := by
  intro s write a lanes d hq hi hr hl hc
  rw [exec_hostRequest_of_idle hq hi, seeRequest_of_not_restarting (by simpa using hr),
    takeRequest_of_unclaimed (by simpa using hl) (by simpa using hc), refuseAccess_of_hreq (requestSeen_hreq ..), requestSeen_eq]
  rfl

end Sys2Proof.Machine
end

-- ==== The cursor set by command ====
section
/-! PROOFS. SET_CURSOR (R75): what the row of a link command answers from its outcome alone, which positions a cursor window holds, and the
three outcomes of SET_CURSOR. -/

namespace Sys2Proof.Machine

/-! ## A row from its outcome -/

/-- Outside RESTART a command whose own checks refuse it leaves its result alone (R20, R154, R155). -/
theorem applyRow_of_refused {s : State} {k : LinkCommand} {params : List Byte} {ldi : Bool} {r : ResultCode} (hq : Quiet s)
    (hr : s.cmu.restarting = false) (h : AtApply s k params ldi) (ho : k.outcome params (driveRising s ldi) = .refused r) :
    applyRow k ldi s = .next (commandDone s ldi r) := by
  have hr' : (driveRising s ldi).cmu.restarting = false := hr
  rw [applyRow_of_atApply hq h, applyCommand_of_not_restarting hr', ho]
  exact congrArg _ (refuseCommand_eq_commandDone s ldi r)

/-- Outside RESTART a command whose outcome writes one record leaves that record and the result OK (R16, R23, R154, R155). -/
theorem applyRow_of_putRegion {s : State} {k : LinkCommand} {params : List Byte} {ldi : Bool} {n : Fin 8} {r : Region} (hq : Quiet s)
    (hr : s.cmu.restarting = false) (h : AtApply s k params ldi) (hk : k.alwaysTaken = false)
    (ho : k.outcome params (driveRising s ldi) = putRegion (driveRising s ldi) n r) :
    applyRow k ldi s = .next (regionWritten s ldi n r) := by
  have hr' : (driveRising s ldi).cmu.restarting = false := hr
  rw [applyRow_of_atApply hq h, applyCommand_of_not_restarting hr', ho]
  simp only [putRegion, taken, hk]
  rfl

/-! ## The cursor window -/

/-- A position lies in the cursor window when both its coordinates lie between the window's bounds, these included (R21). -/
theorem Region.inCursorWindow_iff {r : Region} {p : Position} :
    r.inCursorWindow p = true ↔ r.x0 ≤ p.x ∧ p.x ≤ r.x1 ∧ r.y0 ≤ p.y ∧ p.y ≤ r.y1 := by
  simp [Region.inCursorWindow, and_assoc]

/-- SET_CURSOR takes this position for this record: its values are in range and it lies in the cursor window held (R20, R21, R75). -/
def Region.TakesCursor (r : Region) (p : Position) : Prop := p.x ≤ 4095 ∧ p.y ≤ 4095 ∧ r.inCursorWindow p = true

/-- The checks of SET_CURSOR fail exactly on the positions that it does not take. -/
theorem Region.not_takesCursor_iff {r : Region} {p : Position} :
    ¬ r.TakesCursor p ↔ 4095 < p.x ∨ 4095 < p.y ∨ r.inCursorWindow p = false := by
  simp only [Region.TakesCursor, not_and_or, Nat.not_le, Bool.not_eq_true]

/-! ## The outcome of SET_CURSOR -/

/-- The position in the parameter bytes of a SET_CURSOR. -/
def cursorParam (params : List Byte) : Position := ⟨paramNumber params 1 2, paramNumber params 3 2⟩

section
variable {s : State} {params : List Byte} {n : Fin 8} (hn : paramNumber params 0 1 = n.val)
include hn

/-- A MAPPED region has no cursor to set (R19). -/
theorem setCursorOutcome_of_mapped (hm : (s.rt[n]).kind = .mapped) : setCursorOutcome params s = .refused .wrongKind := by
  rw [setCursorOutcome, withRegion_of_eq hn]
  exact if_pos hm

/-- A position that is out of range or outside the window is refused (R21, R75). -/
theorem setCursorOutcome_of_not_takes (hk : (s.rt[n]).kind = .stream) (hp : ¬ (s.rt[n]).TakesCursor (cursorParam params)) :
    setCursorOutcome params s = .refused .badValue := by
  have hm : (s.rt[n]).kind ≠ .mapped := hk ▸ nofun
  rw [setCursorOutcome, withRegion_of_eq hn]
  exact (if_neg hm).trans (if_pos (Region.not_takesCursor_iff.mp hp))

/-- A position in range inside the window becomes the cursor (R75). -/
theorem setCursorOutcome_of_takes (hk : (s.rt[n]).kind = .stream) (hp : (s.rt[n]).TakesCursor (cursorParam params)) :
    setCursorOutcome params s = putRegion s n { s.rt[n] with cursor := cursorParam params } := by
  have hm : (s.rt[n]).kind ≠ .mapped := hk ▸ nofun
  rw [setCursorOutcome, withRegion_of_eq hn]
  exact (if_neg hm).trans (if_neg fun hbad => Region.not_takesCursor_iff.mpr hbad hp)

end

/-! ## The statement -/

/-- Settles O54: by the kind of the region and whether it takes the position, the row answers what its outcome says. -/
theorem cursorIsSetInsideItsWindow : Obligations.CursorIsSetInsideItsWindow := by
  intro s params ldi n hq hr hn ha r cx cy
  have htakes : (r.TakesCursor (cursorParam params)) ↔
      cx ≤ 4095 ∧ cy ≤ 4095 ∧ r.x0 ≤ cx ∧ cx ≤ r.x1 ∧ r.y0 ≤ cy ∧ cy ≤ r.y1 := by
    rw [Region.TakesCursor, Region.inCursorWindow_iff]
    rfl
  rw [← htakes]
  refine ⟨fun hm => ?mapped, fun hk hout => ?outside, fun hk hin => ?inside⟩
  case mapped => exact applyRow_of_refused hq hr ha (setCursorOutcome_of_mapped hn hm)
  case outside => exact applyRow_of_refused hq hr ha (setCursorOutcome_of_not_takes hn hk hout)
  case inside => exact applyRow_of_putRegion hq hr ha rfl (setCursorOutcome_of_takes hn hk hin)

end Sys2Proof.Machine
end

-- ==== The settings written by command ====
section
/-! PROOFS. SET_TIMING and SET_MEMORY (R166, R167): what the row of a command that writes the settings leaves, when the checks of the two
commands fail, and their outcomes. -/

namespace Sys2Proof.Machine

/-! ## A row that writes the settings -/

/-- The settings are written, and nothing else, by a command whose result is OK (R164). -/
def settingsWritten (s : State) (ldi : Bool) (x : Settings) : State :=
  commandDone { s with cmu := { s.cmu with settings := x } } ldi .ok

/-- Outside RESTART a command whose outcome writes the settings leaves them and the result OK (R154, R155, R164). -/
theorem applyRow_of_putSettings {s : State} {k : LinkCommand} {params : List Byte} {ldi : Bool} {x : Settings} (hq : Quiet s)
    (hr : s.cmu.restarting = false) (h : AtApply s k params ldi) (hk : k.alwaysTaken = false)
    (ho : k.outcome params (driveRising s ldi) = putSettings (driveRising s ldi) x) :
    applyRow k ldi s = .next (settingsWritten s ldi x) := by
  have hr' : (driveRising s ldi).cmu.restarting = false := hr
  rw [applyRow_of_atApply hq h, applyCommand_of_not_restarting hr', ho]
  simp only [putSettings, taken, hk]
  rfl

/-! ## SET_TIMING -/

/-- The settings with the two values of a SET_TIMING in them. -/
def Settings.withTiming (x : Settings) (params : List Byte) : Settings :=
  { x with idleDelay := paramNumber params 0 1, readyTimeout := paramNumber params 1 2 }

/-- The ready timeout of a SET_TIMING is out of range (R166). -/
abbrev TimeoutOutOfRange (params : List Byte) : Prop := paramNumber params 1 2 < 16 ∨ 4095 < paramNumber params 1 2

/-- A ready timeout out of range is refused; no other state or value matters (R166). -/
theorem setTimingOutcome_of_outOfRange {params : List Byte} (h : TimeoutOutOfRange params) (s : State) :
    setTimingOutcome params s = .refused .badValue :=
  if_neg (by omega)

/-- A ready timeout in range is written together with the delay (R166). -/
theorem setTimingOutcome_of_inRange {params : List Byte} (h : ¬ TimeoutOutOfRange params) (s : State) :
    setTimingOutcome params s = putSettings s (s.cmu.settings.withTiming params) :=
  if_pos (by omega)

/-- Settles O57: by the range of the ready timeout, the row answers what its outcome says. -/
theorem timingIsSet : Obligations.TimingIsSet := by
  intro s params ldi hq hr ha delay timeout
  by_cases hbad : TimeoutOutOfRange params
  case pos =>
    rw [if_pos hbad]
    exact applyRow_of_refused hq hr ha (setTimingOutcome_of_outOfRange hbad _)
  case neg =>
    rw [if_neg hbad]
    exact applyRow_of_putSettings hq hr ha rfl (setTimingOutcome_of_inRange hbad _)

/-! ## SET_MEMORY -/

/-- The test for an ENABLED region finds one exactly when the table holds one (R12). -/
theorem anyEnabled_iff {s : State} : anyEnabled s = true ↔ ∃ n : Fin 8, (s.rt[n]).enabled = true := by
  simp [anyEnabled]

/-- The settings with the three values of a SET_MEMORY in them. -/
def Settings.withMemory (x : Settings) (params : List Byte) : Settings :=
  { x with
    memorySize := paramNumber params 0 1
    passThrough := decide (paramNumber params 1 1 = 1)
    holdPolicy := if paramNumber params 2 1 = 1 then .drainFirst else .immediate }

/-- Some value of a SET_MEMORY is out of range (R167). -/
abbrev MemoryOutOfRange (params : List Byte) : Prop :=
  paramNumber params 0 1 < 1 ∨ 16 < paramNumber params 0 1 ∨ 1 < paramNumber params 1 1 ∨ 1 < paramNumber params 2 1

/-- While a region is ENABLED the command is refused before its values are looked at (R12, R167). -/
theorem setMemoryOutcome_of_enabled {s : State} (h : anyEnabled s = true) (params : List Byte) :
    setMemoryOutcome params s = .refused .inUse :=
  if_pos h

/-- With no region ENABLED a value out of range is refused (R167). -/
theorem setMemoryOutcome_of_outOfRange {s : State} {params : List Byte} (h : ¬ anyEnabled s = true) (hv : MemoryOutOfRange params) :
    setMemoryOutcome params s = .refused .badValue :=
  (if_neg h).trans (if_neg (by omega))

/-- With no region ENABLED values in range are written together (R167). -/
theorem setMemoryOutcome_of_inRange {s : State} {params : List Byte} (h : ¬ anyEnabled s = true) (hv : ¬ MemoryOutOfRange params) :
    setMemoryOutcome params s = putSettings s (s.cmu.settings.withMemory params) :=
  (if_neg h).trans (if_pos (by omega))

/-- Settles O58: by the table and then by the ranges of the values, the row answers what its outcome says. -/
theorem memorySettingsAreSet : Obligations.MemorySettingsAreSet := by
  intro s params ldi hq hr ha size pass policy
  by_cases hen : ∃ n : Fin 8, (s.rt[n]).enabled = true
  case pos =>
    have hany : anyEnabled (driveRising s ldi) = true := anyEnabled_iff.mpr hen
    rw [if_pos hen]
    exact applyRow_of_refused hq hr ha (setMemoryOutcome_of_enabled hany params)
  case neg =>
    have hnone : ¬ anyEnabled (driveRising s ldi) = true := mt anyEnabled_iff.mp hen
    rw [if_neg hen]
    by_cases hbad : MemoryOutOfRange params
    case pos =>
      rw [if_pos hbad]
      exact applyRow_of_refused hq hr ha (setMemoryOutcome_of_outOfRange hnone hbad)
    case neg =>
      rw [if_neg hbad]
      exact applyRow_of_putSettings hq hr ha rfl (setMemoryOutcome_of_inRange hnone hbad)

end Sys2Proof.Machine
end

-- ==== Scan order ====
section
/-! PROOFS. Scan order (R68): the successor stays in the cursor window and is the next number, counted row by row or column by column. -/

namespace Sys2Proof.Machine

/-- The successor of a position of the cursor window lies in the window (R68). -/
theorem Region.inCursorWindow_successor {r : Region} {p : Position} (h : r.inCursorWindow p = true) :
    r.inCursorWindow (r.successor p) = true := by
  rw [Region.inCursorWindow_iff] at h ⊢
  unfold Region.successor
  repeat' split
  all_goals dsimp only
  all_goals omega

/-- So does every position reached from it in scan order (R69, R70). -/
theorem Region.inCursorWindow_advance {r : Region} (n : Nat) {p : Position} (h : r.inCursorWindow p = true) :
    r.inCursorWindow (r.advance n p) = true := by
  induction n generalizing p with
  | zero => exact h
  | succ n ih => exact ih (inCursorWindow_successor h)

/-- The next number of a cell of a grid with lines of m + 1 cells, k + 1 lines: along the line, to the next line, or back to the first. -/
theorem grid_next {a b m k : Nat} (ha : a ≤ m) (hb : b ≤ k) :
    (if a < m then b * (m + 1) + (a + 1) else if b < k then (b + 1) * (m + 1) else 0) =
      (b * (m + 1) + a + 1) % ((m + 1) * (k + 1)) := by
  have hcell {a b : Nat} (ha : a ≤ m) (hb : b ≤ k) : b * (m + 1) + a < (m + 1) * (k + 1) := by
    calc b * (m + 1) + a < (b + 1) * (m + 1) := by rw [Nat.add_one_mul]; omega
      _ ≤ (k + 1) * (m + 1) := Nat.mul_le_mul_right _ (by omega)
      _ = (m + 1) * (k + 1) := Nat.mul_comm _ _
  split
  · rw [Nat.add_assoc, Nat.mod_eq_of_lt (hcell (by omega) hb)]
  · have hline : b * (m + 1) + a + 1 = (b + 1) * (m + 1) := by
      rw [Nat.add_one_mul]
      omega
    rw [hline]
    split
    · simpa using (Nat.mod_eq_of_lt (hcell (Nat.zero_le m) (b := b + 1) (by omega))).symm
    · obtain rfl : b = k := by omega
      rw [Nat.mul_comm, Nat.mod_self]

/-- Settles O19: in each scan order the three cases of the successor are the three cases of the next cell of a grid. -/
theorem successorIsTheNextNumber : Obligations.SuccessorIsTheNextNumber := by
  intro r p h
  refine ⟨Region.inCursorWindow_successor h, fun hs => ?_, fun hs => ?_⟩ <;> rw [Region.inCursorWindow_iff] at h
  · have hx : p.x < r.x1 ↔ p.x - r.x0 < r.x1 - r.x0 := by omega
    have hy : p.y < r.y1 ↔ p.y - r.y0 < r.y1 - r.y0 := by omega
    rw [← grid_next (a := p.x - r.x0) (b := p.y - r.y0) (by omega) (by omega)]
    simp only [Region.successor, hs, hx, hy]
    split
    · dsimp only
      omega
    · split
      · rw [← Nat.sub_add_comm h.2.2.1]
        simp
      · simp
  · have hx : p.x < r.x1 ↔ p.x - r.x0 < r.x1 - r.x0 := by omega
    have hy : p.y < r.y1 ↔ p.y - r.y0 < r.y1 - r.y0 := by omega
    rw [Nat.mul_comm (r.x1 - r.x0 + 1), ← grid_next (a := p.y - r.y0) (b := p.x - r.x0) (by omega) (by omega)]
    simp only [Region.successor, hs, hx, hy]
    split
    · dsimp only
      omega
    · split
      · rw [← Nat.sub_add_comm h.1]
        simp
      · simp

end Sys2Proof.Machine
end

-- ==== What each event leaves ====
section
/-! PROOFS. The frame of each event of the bridge: the state after it is the state before it with the named fields changed. -/

namespace Sys2Proof.Machine

/-! ## Host port -/

/-- Going on with a write changes the entries, the queue, the latch and the HPC alone (R60, R61). -/
theorem continueWrite_frame (s : State) (a : AccessRecord) :
    continueWrite s a =
      { s with
        mb := (continueWrite s a).mb, mq := (continueWrite s a).mq, ral := (continueWrite s a).ral, hpc := (continueWrite s a).hpc } := by
  have hp := placeList_frame (a.list.drop a.next) s
  dsimp only [continueWrite]
  split
  · rw [finishWrite, (completionNotification_closesOnly _).frame]
    rw [answer, withNext, hp]
  · rw [withNext, hp]

theorem takeWaitingPlacement_frame (s : State) :
    takeWaitingPlacement s =
      { s with
        mb := (takeWaitingPlacement s).mb, mq := (takeWaitingPlacement s).mq, ral := (takeWaitingPlacement s).ral
        hpc := (takeWaitingPlacement s).hpc } := by
  unfold takeWaitingPlacement
  split
  · split
    · exact continueWrite_frame s _
    · rfl
  · rfl

theorem issuePrefetch_frame (s : State) (n : Fin 8) (w : Nat) :
    issuePrefetch s n w =
      { s with mb := (issuePrefetch s n w).mb, mq := (issuePrefetch s n w).mq, ral := (issuePrefetch s n w).ral } := by
  dsimp only [issuePrefetch, appendItem]
  rw [(closeForRead_closesOnly _ w).frame]

theorem streamReadNotification_frame (s : State) (n : Fin 8) (r : Region) :
    streamReadNotification s n r =
      { s with
        mb := (streamReadNotification s n r).mb, mq := (streamReadNotification s n r).mq
        ral := (streamReadNotification s n r).ral } := by
  dsimp only [streamReadNotification]
  split
  · split
    · rfl
    · exact issuePrefetch_frame s n _
  · rfl

theorem finishRead_frame (s : State) (g : Gather) :
    finishRead s g =
      { s with
        rg := none, mb := (finishRead s g).mb, mq := (finishRead s g).mq, ral := (finishRead s g).ral, hpc := (finishRead s g).hpc } := by
  dsimp only [finishRead]
  split
  · split
    · split
      · rw [streamReadNotification_frame]
        rfl
      · rfl
    · rfl
  · rfl

theorem answerRead_frame (s : State) :
    answerRead s =
      { s with
        rg := (answerRead s).rg, mb := (answerRead s).mb, mq := (answerRead s).mq, ral := (answerRead s).ral
        hpc := (answerRead s).hpc } := by
  unfold answerRead
  split
  · split
    · rw [finishRead_frame]
    · rfl
  · rfl

/-- An access goes to work on the entries, the queue, the latch, the gather record and the HPC alone (R60 to R62). -/
theorem startAccess_frame (s : State) (a : AccessRecord) (o : Origin) (f : Format) :
    startAccess s a o f =
      { s with
        mb := (startAccess s a o f).mb, mq := (startAccess s a o f).mq, ral := (startAccess s a o f).ral
        rg := (startAccess s a o f).rg, hpc := (startAccess s a o f).hpc } := by
  unfold startAccess
  split
  · split
    · rfl
    · rw [continueWrite_frame]
  · rw [answerRead_frame, planRead_frame]

theorem claimRegion_frame (s : State) (l : HostLines) (n : Fin 8) :
    claimRegion s l n =
      { s with
        mb := (claimRegion s l n).mb, mq := (claimRegion s l n).mq, ral := (claimRegion s l n).ral
        rg := (claimRegion s l n).rg, hpc := (claimRegion s l n).hpc, rt := (claimRegion s l n).rt
        flog := (claimRegion s l n).flog } := by
  dsimp only [claimRegion]
  split
  · rfl
  · split
    · rfl
    · split
      · rw [startAccess_frame]
      · rw [startAccess_frame]

/-- A request changes the host's blocks, the table (a cursor) and the log alone (R53). -/
theorem takeRequest_frame (s : State) :
    takeRequest s =
      { s with
        mb := (takeRequest s).mb, mq := (takeRequest s).mq, ral := (takeRequest s).ral, rg := (takeRequest s).rg
        hpc := (takeRequest s).hpc, rt := (takeRequest s).rt, flog := (takeRequest s).flog } := by
  dsimp only [takeRequest]
  split
  · rfl
  · split
    · rfl
    · rw [claimRegion_frame]
    · rw [startAccess_frame]

theorem seeRequest_frame (s : State) :
    seeRequest s =
      { s with
        mb := (seeRequest s).mb, mq := (seeRequest s).mq, ral := (seeRequest s).ral, rg := (seeRequest s).rg
        hpc := (seeRequest s).hpc, rt := (seeRequest s).rt, flog := (seeRequest s).flog } := by
  unfold seeRequest
  split
  · rfl
  · exact takeRequest_frame s

theorem hreqLowEvent_frame (s : State) :
    hreqLowEvent s = { s with inp := { s.inp with hreq := false }, hpc := (hreqLowEvent s).hpc } := by
  dsimp only [hreqLowEvent]
  split <;> rfl

/-! ## Due work -/

theorem setFlushDone_frame (s : State) :
    setFlushDone s = { s with cmu := { s.cmu with flushDone := (setFlushDone s).cmu.flushDone } } := by
  unfold setFlushDone
  split <;> rfl

theorem takeGrant_frame (s : State) :
    takeGrant s = { s with hld := (takeGrant s).hld, msq := (takeGrant s).msq, ral := (takeGrant s).ral } := by
  unfold takeGrant
  split <;> rfl

theorem endRestart_frame (s : State) :
    endRestart s =
      { s with
        mb := (endRestart s).mb, mq := (endRestart s).mq, ral := (endRestart s).ral, rg := (endRestart s).rg
        hpc := (endRestart s).hpc, rt := (endRestart s).rt, flog := (endRestart s).flog, cmu := (endRestart s).cmu } := by
  unfold endRestart
  split
  · split
    · rw [takeRequest_frame]
      rfl
    · rfl
  · rfl

/-! ## Timers and the sequencer -/

theorem expireEntry_closesOnly (i : Fin 8) (s : State) : ClosesOnly s (expireEntry i s) := by
  unfold expireEntry
  split
  · split
    · exact closeEntry_closesOnly s i
    all_goals exact .rfl
  · exact .rfl

theorem beginHead_frame (s : State) : beginHead s = { s with mb := (beginHead s).mb, msq := (beginHead s).msq } := by
  unfold beginHead
  split
  · split
    · split <;> rfl
    · rfl
  all_goals rfl

theorem beginItemEvent_frame (s : State) :
    beginItemEvent s = { s with mb := (beginItemEvent s).mb, msq := (beginItemEvent s).msq } := by
  unfold beginItemEvent
  split
  · exact beginHead_frame s
  · rfl

/-- The write's completion (R116, R117): the level of MRDY, the sequencer, the entry, the queue and the marks. -/
theorem writeCompletes_frame (s : State) (o : Operation) :
    writeCompletes s o =
      { s with
        inp := { s.inp with mrdy := true }, msq := (writeCompletes s o).msq, mb := (writeCompletes s o).mb, mq := (writeCompletes s o).mq
        cmu := { s.cmu with flushMark := (writeCompletes s o).cmu.flushMark }
        hld := { s.hld with drainMark := (writeCompletes s o).hld.drainMark } } := by
  unfold writeCompletes endEntryItem
  split <;> rfl

theorem strobeWriteCompleteEvent_frame (s : State) :
    strobeWriteCompleteEvent s =
      { s with
        inp := { s.inp with mrdy := (strobeWriteCompleteEvent s).inp.mrdy }, msq := (strobeWriteCompleteEvent s).msq
        mb := (strobeWriteCompleteEvent s).mb, mq := (strobeWriteCompleteEvent s).mq
        cmu := { s.cmu with flushMark := (strobeWriteCompleteEvent s).cmu.flushMark }
        hld := { s.hld with drainMark := (strobeWriteCompleteEvent s).hld.drainMark } } := by
  unfold strobeWriteCompleteEvent
  split
  · split
    · rw [writeCompletes_frame]
    all_goals rfl
  · rfl

theorem rmwWriteCompleteEvent_frame (s : State) :
    rmwWriteCompleteEvent s =
      { s with
        inp := { s.inp with mrdy := (rmwWriteCompleteEvent s).inp.mrdy }, msq := (rmwWriteCompleteEvent s).msq
        mb := (rmwWriteCompleteEvent s).mb, mq := (rmwWriteCompleteEvent s).mq
        cmu := { s.cmu with flushMark := (rmwWriteCompleteEvent s).cmu.flushMark }
        hld := { s.hld with drainMark := (rmwWriteCompleteEvent s).hld.drainMark } } := by
  unfold rmwWriteCompleteEvent
  split
  · split
    · rw [writeCompletes_frame]
    all_goals rfl
  · rfl

theorem rmwReadCompleteEvent_frame (md : Word) (s : State) :
    rmwReadCompleteEvent md s =
      { s with
        inp := { s.inp with mrdy := (rmwReadCompleteEvent md s).inp.mrdy, md := (rmwReadCompleteEvent md s).inp.md }
        msq := (rmwReadCompleteEvent md s).msq, mb := (rmwReadCompleteEvent md s).mb } := by
  unfold rmwReadCompleteEvent
  split
  · split
    · split <;> rfl
    · rfl
  · rfl

theorem readCompleteEvent_frame (md : Word) (s : State) :
    readCompleteEvent md s =
      { s with
        inp := { s.inp with mrdy := (readCompleteEvent md s).inp.mrdy, md := (readCompleteEvent md s).inp.md }
        msq := (readCompleteEvent md s).msq, mq := (readCompleteEvent md s).mq, rg := (readCompleteEvent md s).rg
        ral := (readCompleteEvent md s).ral
        cmu := { s.cmu with flushMark := (readCompleteEvent md s).cmu.flushMark }
        hld := { s.hld with drainMark := (readCompleteEvent md s).hld.drainMark } } := by
  unfold readCompleteEvent
  split
  · split
    · unfold deliverRead
      split <;> rfl
    all_goals rfl
  · rfl

theorem mrdyReleaseEvent_frame (s : State) :
    mrdyReleaseEvent s = { s with inp := { s.inp with mrdy := (mrdyReleaseEvent s).inp.mrdy }, msq := (mrdyReleaseEvent s).msq } := by
  unfold mrdyReleaseEvent
  split
  · split <;> rfl
  · split <;> rfl

/-- A head item that ends without its operation's completion: the entry, the queue, the log, the gather record, the latch and the marks. -/
theorem failEntryItem_frame (s : State) (i : Fin 8) (k : FaultKind) :
    failEntryItem s i k =
      { s with
        mb := (failEntryItem s i k).mb, mq := (failEntryItem s i k).mq, flog := (failEntryItem s i k).flog
        cmu := { s.cmu with flushMark := (failEntryItem s i k).cmu.flushMark }
        hld := { s.hld with drainMark := (failEntryItem s i k).hld.drainMark } } := by
  unfold failEntryItem
  split <;> rfl

theorem failReadItem_frame (s : State) (k : FaultKind) (x : Item) :
    failReadItem s k x =
      { s with
        mq := (failReadItem s k x).mq, flog := (failReadItem s k x).flog, rg := (failReadItem s k x).rg
        ral := (failReadItem s k x).ral
        cmu := { s.cmu with flushMark := (failReadItem s k x).cmu.flushMark }
        hld := { s.hld with drainMark := (failReadItem s k x).hld.drainMark } } := by
  unfold failReadItem
  split <;> rfl

theorem timeoutItem_frame (s : State) (o : Operation) :
    timeoutItem s o =
      { s with
        mb := (timeoutItem s o).mb, mq := (timeoutItem s o).mq, flog := (timeoutItem s o).flog, rg := (timeoutItem s o).rg
        ral := (timeoutItem s o).ral
        cmu := { s.cmu with flushMark := (timeoutItem s o).cmu.flushMark }
        hld := { s.hld with drainMark := (timeoutItem s o).hld.drainMark } } := by
  unfold timeoutItem
  split
  · split
    · rw [failEntryItem_frame]
    · rw [failReadItem_frame]
    · rw [failReadItem_frame]
  · rfl

theorem readyTimeoutEvent_frame (s : State) :
    readyTimeoutEvent s =
      { s with
        msq := (readyTimeoutEvent s).msq
        mb := (readyTimeoutEvent s).mb, mq := (readyTimeoutEvent s).mq, flog := (readyTimeoutEvent s).flog
        rg := (readyTimeoutEvent s).rg, ral := (readyTimeoutEvent s).ral
        cmu := { s.cmu with flushMark := (readyTimeoutEvent s).cmu.flushMark }
        hld := { s.hld with drainMark := (readyTimeoutEvent s).hld.drainMark } } := by
  unfold readyTimeoutEvent
  split
  · split
    · rw [msqRecover, timeoutItem_frame]
    · rfl
  · rfl

theorem secondExpiryEvent_frame (s : State) :
    secondExpiryEvent s = { s with msq := (secondExpiryEvent s).msq, flog := (secondExpiryEvent s).flog } := by
  unfold secondExpiryEvent
  split <;> rfl

theorem recoverEndEvent_frame (s : State) :
    recoverEndEvent s = { s with inp := { s.inp with mrdy := (recoverEndEvent s).inp.mrdy }, msq := (recoverEndEvent s).msq } := by
  unfold recoverEndEvent
  split <;> rfl

theorem unsolicitedReadyEvent_frame (s : State) :
    unsolicitedReadyEvent s =
      { s with inp := { s.inp with mrdy := (unsolicitedReadyEvent s).inp.mrdy }, msq := (unsolicitedReadyEvent s).msq } := by
  unfold unsolicitedReadyEvent
  split <;> rfl

theorem stuckDropEvent_frame (s : State) :
    stuckDropEvent s =
      { s with
        mb := (stuckDropEvent s).mb, mq := (stuckDropEvent s).mq, flog := (stuckDropEvent s).flog
        rg := (stuckDropEvent s).rg, ral := (stuckDropEvent s).ral
        cmu := { s.cmu with flushMark := (stuckDropEvent s).cmu.flushMark }
        hld := { s.hld with drainMark := (stuckDropEvent s).hld.drainMark } } := by
  unfold stuckDropEvent dropHead
  split
  · split
    · rw [failEntryItem_frame]
    · rw [failReadItem_frame]
    · rw [failReadItem_frame]
    · rfl
  · rfl

theorem stuckEndEvent_frame (s : State) :
    stuckEndEvent s = { s with inp := { s.inp with mrdy := (stuckEndEvent s).inp.mrdy }, msq := (stuckEndEvent s).msq } := by
  unfold stuckEndEvent
  split <;> rfl

/-! ## The hold -/

theorem holdRequestEvent_frame (s : State) :
    holdRequestEvent s =
      { s with
        inp := { s.inp with mhold := (holdRequestEvent s).inp.mhold }, mb := (holdRequestEvent s).mb, mq := (holdRequestEvent s).mq
        hld := (holdRequestEvent s).hld } := by
  unfold holdRequestEvent
  split
  · unfold takeHoldRequest
    split
    · rfl
    · rw [(closeAllOpen_closesOnly s).frame]
  all_goals rfl

theorem mholdFalls_frame (mrdy : Bool) (s : State) :
    mholdFalls mrdy s =
      { s with
        inp := { s.inp with mhold := false, mrdy := (mholdFalls mrdy s).inp.mrdy }, mb := (mholdFalls mrdy s).mb
        msq := (mholdFalls mrdy s).msq, hld := (mholdFalls mrdy s).hld } := by
  dsimp only [mholdFalls]
  split
  · rfl
  · rw [withdrawHold, beginItemEvent_frame]
  · cases mrdy <;> rfl

/-! ## The link -/

theorem frameStartEvent_frame (s : State) :
    frameStartEvent s = { s with inp := { s.inp with lsel := false }, cfl := (frameStartEvent s).cfl } := by
  dsimp only [frameStartEvent]
  split <;> rfl

theorem shiftEdge_frame (ldi : Bool) (s : State) :
    shiftEdge ldi s = { s with cfl := (shiftEdge ldi s).cfl, flog := (shiftEdge ldi s).flog } := by
  unfold shiftEdge
  split
  iterate 2 rfl
  iterate 3 split <;> rfl
  · split
    · rfl
    · split <;> rfl
  · split <;> rfl

/-! ## One CLK period -/

/-- Counting the idle timers of some entries changes the entries alone (R93). -/
theorem countDownEntries_frame (l : List (Fin 8)) (s : State) :
    l.foldl countDownEntry s = { s with mb := (l.foldl countDownEntry s).mb } := by
  induction l generalizing s with
  | nil => rfl
  | cons i l ih => rw [List.foldl_cons, ih]; rfl

theorem tickIdleTimers_frame (s : State) : tickIdleTimers s = { s with mb := (tickIdleTimers s).mb, mq := (tickIdleTimers s).mq } := by
  have hc := countDownEntries_frame allEight s
  unfold tickIdleTimers
  rw [(closeEntries_closesOnly _ _).frame, hc]

theorem tickReadyTimer_cases (s : State) :
    tickReadyTimer s = s ∨ (∃ n, s.msq.timer = some n ∧ 1 < n ∧ tickReadyTimer s = { s with msq := { s.msq with timer := some (n - 1) } })
      ∨ tickReadyTimer s = readyTimeoutEvent s ∨ tickReadyTimer s = secondExpiryEvent s := by
  unfold tickReadyTimer
  split
  · exact .inl rfl
  · split
    · exact .inr (.inl ⟨_, ‹_›, ‹_›, rfl⟩)
    · split <;> simp

end Sys2Proof.Machine
end

-- ==== What a link command does ====
section
/-! PROOFS. What a link command can do at its apply point (R20, R154): the ways in which a region command may change a record, the outcomes of
the eighteen commands, and the state after a rising edge of LCLK. -/

namespace Sys2Proof.Machine

/-! ## Region commands -/

/-- The ways in which a region command changes a record, each with the checks it has passed (R16, R20 to R22, R24, R27, R74 to R77). -/
inductive RegionChange (words : Nat) (r : Region) : Region → Prop
  | window (base length : Nat) (off : r.enabled = false) (range : base ≤ 16777212 ∧ base % 4 = 0 ∧ length ≤ 4194304) :
      RegionChange words r { r with windowBase := base, windowLength := length }
  | surface (base pitch width height : Nat) (f : Format) (off : r.enabled = false)
      (range : base ≤ 1048575 ∧ (1 ≤ pitch ∧ pitch ≤ 4096) ∧ (1 ≤ width ∧ width ≤ 4096) ∧ (1 ≤ height ∧ height ≤ 4096)) :
      RegionChange words r { r with base := base, pitch := pitch, width := width, height := height, format := f }
  | mode (kind : Kind) (access : Access) (op : RasterOp) (mx my : Bool) (scan : ScanOrder) (ra : Bool) (off : r.enabled = false) :
      RegionChange words r
        { r with kind := kind, access := access, op := op, mirrorX := mx, mirrorY := my, scan := scan, readAhead := ra }
  | band (top rows : Nat) (off : r.enabled = false) (range : top ≤ 4095 ∧ rows ≠ 1 ∧ rows ≤ 4096) :
      RegionChange words r { r with bandTop := top, bandRows := rows }
  | scroll (offset : Nat) (range : offset ≤ 4095) (fits : r.enabled = true → r.scrollFits offset = true) :
      RegionChange words r { r with scroll := offset }
  | cursorWindow (x0 x1 y0 y1 : Nat) (range : x0 ≤ x1 ∧ x1 ≤ 4095 ∧ y0 ≤ y1 ∧ y1 ≤ 4095)
      (fits : r.enabled = true → r.cursorWindowFits x1 y1 = true) :
      RegionChange words r { r with x0 := x0, x1 := x1, y0 := y0, y1 := y1, cursor := ⟨x0, y0⟩, revisit := false, mark := none }
  | cursor (p : Position) (inside : r.inCursorWindow p = true) : RegionChange words r { r with cursor := p }
  | revisitBegun (kind : r.kind = .stream) (on : r.enabled = true) : RegionChange words r { r with revisit := true, mark := some r.cursor }
  | revisitEnded (revisit : r.revisit = true) : RegionChange words r { r with revisit := false, mark := none, cursor := r.mark.getD r.cursor }
  | enabled (off : r.enabled = false) (checks : r.enableChecks words = true) : RegionChange words r { r with enabled := true }
  | disabled : RegionChange words r { r with enabled := false, revisit := false, mark := none }

/-- What a taken command may do to the state outside the link (R154): nothing, one record changed, the settings, a FLUSH or a RESTART. -/
inductive CommandEffect (s : State) : State → Prop
  | none : CommandEffect s s
  | region (n : Fin 8) (r : Region) (change : RegionChange (memoryWords s.cmu.settings.memorySize) s.rt[n] r) :
      CommandEffect s { s with rt := s.rt.set n r }
  | timing (delay timeout : Nat) (range : delay ≤ 255 ∧ 16 ≤ timeout ∧ timeout ≤ 4095) :
      CommandEffect s
        { s with cmu := { s.cmu with settings := { s.cmu.settings with idleDelay := delay, readyTimeout := timeout } } }
  | memory (size : Nat) (pass : Bool) (policy : HoldPolicy) (off : ∀ n : Fin 8, (s.rt[n]).enabled = false)
      (range : 1 ≤ size ∧ size ≤ 16) :
      CommandEffect s
        { s with cmu := { s.cmu with
            settings := { s.cmu.settings with memorySize := size, passThrough := pass, holdPolicy := policy } } }
  | flush :
      CommandEffect s
        { closeAllOpen s with
          cmu := { s.cmu with
            flushMark := some (closeAllOpen s).mq.length, flushDone := decide ((closeAllOpen s).mq.length = 0) } }
  | restart : CommandEffect s { closeAllOpen s with cmu := { s.cmu with restarting := true }, ral := s.ral.invalidate }

section
variable {s t : State} {params resp : List Byte} {rep : Report}

/-- A region command that is taken has passed the check of its region number (R20). -/
theorem withRegion_eq_taken {k : Fin 8 → Region → LinkOutcome} (h : withRegion s params k = .taken t resp rep) :
    ∃ n : Fin 8, k n s.rt[n] = .taken t resp rep := by
  unfold withRegion at h
  split at h
  · exact ⟨_, h⟩
  · cases h

theorem putRegion_eq_taken {n : Fin 8} {r : Region} (h : putRegion s n r = .taken t resp rep) : t = { s with rt := s.rt.set n r } := by
  cases h
  rfl

end

/-- The mode bytes change the seven mode fields alone (R163). -/
theorem modeOf_eq_some {r r' : Region} {a b : Byte} (h : modeOf r a b = some r') :
    ∃ kind access op mx my scan ra,
      r' = { r with kind := kind, access := access, op := op, mirrorX := mx, mirrorY := my, scan := scan, readAhead := ra } := by
  unfold modeOf at h
  split at h
  · obtain ⟨access, -, rfl⟩ := Option.map_eq_some_iff.mp h
    exact ⟨_, _, _, _, _, _, _, rfl⟩
  · cases h

/-- A taken region command changes one record in one of its ways, or is a DISABLE of a DISABLED region and changes nothing. -/
theorem RegionChange.effect {s t : State} {n : Fin 8} {r : Region} {resp : List Byte} {rep : Report}
    (hc : RegionChange (memoryWords s.cmu.settings.memorySize) s.rt[n] r) (h : putRegion s n r = .taken t resp rep) : CommandEffect s t := by
  rw [putRegion_eq_taken h]
  exact .region n r hc

/-- A byte is below 256, so one parameter byte is at most 255. -/
theorem paramNumber_one_le (params : List Byte) (i : Nat) : paramNumber params i 1 ≤ 255 := by
  unfold paramNumber numberOf
  cases params.drop i with
  | nil => simp
  | cons b l => simpa using Nat.le_of_lt_succ b.isLt

section
variable {s t : State} {params resp : List Byte} {rep : Report}

theorem setWindowOutcome_taken (h : setWindowOutcome params s = .taken t resp rep) : CommandEffect s t := by
  obtain ⟨n, h⟩ := withRegion_eq_taken h
  dsimp only at h
  split at h
  · cases h
  · split at h
    · exact (RegionChange.window _ _ (Bool.eq_false_of_not_eq_true ‹_›) ‹_›).effect h
    · cases h

theorem setSurfaceOutcome_taken (h : setSurfaceOutcome params s = .taken t resp rep) : CommandEffect s t := by
  obtain ⟨n, h⟩ := withRegion_eq_taken h
  dsimp only at h
  split at h
  · cases h
  · split at h
    · cases h
    · split at h
      · exact (RegionChange.surface _ _ _ _ _ (Bool.eq_false_of_not_eq_true ‹_›) ‹_›).effect h
      · cases h

theorem setModeOutcome_taken (h : setModeOutcome params s = .taken t resp rep) : CommandEffect s t := by
  obtain ⟨n, h⟩ := withRegion_eq_taken h
  split at h
  · cases h
  · split at h
    · cases h
    · obtain ⟨kind, access, op, mx, my, scan, ra, rfl⟩ := modeOf_eq_some ‹_›
      exact (RegionChange.mode kind access op mx my scan ra (Bool.eq_false_of_not_eq_true ‹_›)).effect h

theorem setBandOutcome_taken (h : setBandOutcome params s = .taken t resp rep) : CommandEffect s t := by
  obtain ⟨n, h⟩ := withRegion_eq_taken h
  dsimp only at h
  split at h
  · cases h
  · split at h
    · exact (RegionChange.band _ _ (Bool.eq_false_of_not_eq_true ‹_›) ‹_›).effect h
    · cases h

theorem setScrollOutcome_taken (h : setScrollOutcome params s = .taken t resp rep) : CommandEffect s t := by
  obtain ⟨n, h⟩ := withRegion_eq_taken h
  dsimp only at h
  split at h
  · cases h
  · split at h
    · cases h
    · rename_i hle hfit
      exact (RegionChange.scroll _ (Nat.not_lt.mp hle) (by simpa using hfit)).effect h

theorem setCursorWindowOutcome_taken (h : setCursorWindowOutcome params s = .taken t resp rep) : CommandEffect s t := by
  obtain ⟨n, h⟩ := withRegion_eq_taken h
  dsimp only at h
  split at h
  · cases h
  · split at h
    · cases h
    · split at h
      · cases h
      · rename_i hrange hfit
        exact (RegionChange.cursorWindow _ _ _ _ (Decidable.not_not.mp hrange) (by simpa using hfit)).effect h

theorem setCursorOutcome_taken (h : setCursorOutcome params s = .taken t resp rep) : CommandEffect s t := by
  obtain ⟨n, h⟩ := withRegion_eq_taken h
  dsimp only at h
  split at h
  · cases h
  · split at h
    · cases h
    · rename_i hin
      exact (RegionChange.cursor _ (by simpa using (not_or.mp (not_or.mp hin).2).2)).effect h

theorem revisitBeginOutcome_taken (h : revisitBeginOutcome params s = .taken t resp rep) : CommandEffect s t := by
  obtain ⟨n, h⟩ := withRegion_eq_taken h
  split at h
  · cases h
  · split at h
    · cases h
    · rename_i hkind hon
      have hstream : (s.rt[n]).kind = .stream := by
        cases hk : (s.rt[n]).kind
        · exact absurd hk hkind
        · rfl
      exact (RegionChange.revisitBegun hstream (by simpa using (not_or.mp hon).1)).effect h

theorem revisitEndOutcome_taken (h : revisitEndOutcome params s = .taken t resp rep) : CommandEffect s t := by
  obtain ⟨n, h⟩ := withRegion_eq_taken h
  split at h
  · cases h
  · split at h
    · cases h
    · rename_i hon
      exact (RegionChange.revisitEnded (by simpa using (not_or.mp hon).2)).effect h

theorem enableOutcome_taken (h : enableOutcome params s = .taken t resp rep) : CommandEffect s t := by
  obtain ⟨n, h⟩ := withRegion_eq_taken h
  split at h
  · cases h
  · split at h
    · exact (RegionChange.enabled (Bool.eq_false_of_not_eq_true ‹_›) ‹_›).effect h
    · cases h

theorem disableOutcome_taken (h : disableOutcome params s = .taken t resp rep) : CommandEffect s t := by
  obtain ⟨n, h⟩ := withRegion_eq_taken h
  split at h
  · exact RegionChange.disabled.effect h
  · cases h
    exact .none

theorem setTimingOutcome_taken (h : setTimingOutcome params s = .taken t resp rep) : CommandEffect s t := by
  dsimp only [setTimingOutcome] at h
  split at h
  · cases h
    exact .timing _ _ ⟨paramNumber_one_le params 0, ‹_›⟩
  · cases h

theorem setMemoryOutcome_taken (h : setMemoryOutcome params s = .taken t resp rep) : CommandEffect s t := by
  dsimp only [setMemoryOutcome] at h
  split at h
  · cases h
  · split at h
    · rename_i hany hrange
      cases h
      refine .memory _ _ _ (fun n => ?_) hrange.1
      simpa using fun hn => hany (anyEnabled_iff.mpr ⟨n, hn⟩)
    · cases h

theorem flushOutcome_taken (h : flushOutcome params s = .taken t resp rep) : CommandEffect s t := by
  cases h
  have hc : (closeAllOpen s).cmu = s.cmu := by rw [(closeAllOpen_closesOnly s).frame]
  rw [hc]
  exact .flush

theorem restartOutcome_taken (h : restartOutcome params s = .taken t resp rep) : CommandEffect s t := by
  cases h
  have hc : (closeAllOpen s).cmu = s.cmu := by rw [(closeAllOpen_closesOnly s).frame]
  have hr : (closeAllOpen s).ral = s.ral := by rw [(closeAllOpen_closesOnly s).frame]
  rw [hc, hr]
  exact .restart

theorem readRegionOutcome_taken (h : readRegionOutcome params s = .taken t resp rep) : CommandEffect s t := by
  obtain ⟨n, h⟩ := withRegion_eq_taken h
  cases h
  exact .none

/-- What any taken command does to the state outside the link. -/
theorem outcome_taken {k : LinkCommand} (h : k.outcome params s = .taken t resp rep) : CommandEffect s t := by
  cases k with
  | readStatus => cases h; exact .none
  | readFault => cases h; exact .none
  | readRegion => exact readRegionOutcome_taken h
  | setWindow => exact setWindowOutcome_taken h
  | setSurface => exact setSurfaceOutcome_taken h
  | setMode => exact setModeOutcome_taken h
  | setBand => exact setBandOutcome_taken h
  | setScroll => exact setScrollOutcome_taken h
  | setCursorWindow => exact setCursorWindowOutcome_taken h
  | setCursor => exact setCursorOutcome_taken h
  | revisitBegin => exact revisitBeginOutcome_taken h
  | revisitEnd => exact revisitEndOutcome_taken h
  | enable => exact enableOutcome_taken h
  | disable => exact disableOutcome_taken h
  | flush => exact flushOutcome_taken (params := params) h
  | setTiming => exact setTimingOutcome_taken h
  | setMemory => exact setMemoryOutcome_taken h
  | restart => exact restartOutcome_taken (params := params) h

end

/-! ## Responses -/

/-- The report that an outcome leaves to be shifted out; a refusal leaves a plain one (R156). -/
def LinkOutcome.report : LinkOutcome → Report
  | .refused _ => .plain
  | .taken _ _ rep => rep

theorem withRegion_report (s : State) (params : List Byte) {k : Fin 8 → Region → LinkOutcome} (h : ∀ n r, (k n r).report = .plain) :
    (withRegion s params k).report = .plain := by
  unfold withRegion
  split
  · exact h _ _
  · rfl

/-- Every command but READ_FAULT leaves a plain report, and READ_FAULT names the head of the log (R156, R161). -/
theorem outcome_report (k : LinkCommand) (params : List Byte) (s : State) :
    (k.outcome params s).report = if k = .readFault then .fault s.flog.records.head? else .plain := by
  cases k
  case readStatus | readFault | flush | restart => rfl
  case setTiming => exact apply_ite LinkOutcome.report .. |>.trans (ite_self _)
  case setMemory =>
    dsimp only [LinkCommand.outcome, setMemoryOutcome]
    split
    · rfl
    · split <;> rfl
  all_goals
    rw [if_neg nofun]
    dsimp only [LinkCommand.outcome, readRegionOutcome, setWindowOutcome, setSurfaceOutcome, setModeOutcome, setBandOutcome, setScrollOutcome,
      setCursorWindowOutcome, setCursorOutcome, revisitBeginOutcome, revisitEndOutcome, enableOutcome, disableOutcome]
    refine withRegion_report s params fun n r => ?_
    repeat' split
    all_goals rfl

end Sys2Proof.Machine
end

-- ==== The events of a running part ====
section
/-! PROOFS. What a step of a running part is made of: one constructor for each event of the bridge, with what is known where it happens, and
that every command and every CLK period is a chain of such events. An invariant that every event keeps is kept by every step. -/

namespace Sys2Proof.Machine

/-! ## Events -/

/-- One event takes the bridge from a state to the next. A request is seen only in IDLE with HREQ high (R48, R49). -/
inductive Event : State → State → Prop
  | placementTaken (s : State) : Event s (takeWaitingPlacement s)
  | readAnswered (s : State) : Event s (answerRead s)
  | flushDoneSet (s : State) : Event s (setFlushDone s)
  | granted (s : State) : Event s (takeGrant s)
  | restartEnded (s : State) : Event s (endRestart s)
  | requestDriven (s : State) (l : HostLines) : Event s (driveRequest s l)
  | answerEnded (s : State) : Event s (endAnswer s)
  | requestSeen (s : State) (hreq : s.inp.hreq = true) (idle : s.hpc.state = .idle) : Event s (seeRequest s)
  | hreqFell (s : State) : Event s (hreqLowEvent s)
  | idleExpired (s : State) (i : Fin 8) : Event s (expireEntry i s)
  | itemBegun (s : State) : Event s (beginItemEvent s)
  | strobeWritten (s : State) : Event s (strobeWriteCompleteEvent s)
  | rmwRead (s : State) (md : Word) : Event s (rmwReadCompleteEvent md s)
  | rmwWritten (s : State) : Event s (rmwWriteCompleteEvent s)
  | wordRead (s : State) (md : Word) : Event s (readCompleteEvent md s)
  | mrdyReleased (s : State) : Event s (mrdyReleaseEvent s)
  | readyTimedOut (s : State) : Event s (readyTimeoutEvent s)
  | timedOutAgain (s : State) : Event s (secondExpiryEvent s)
  | recovered (s : State) : Event s (recoverEndEvent s)
  | readyUnasked (s : State) : Event s (unsolicitedReadyEvent s)
  | headDropped (s : State) : Event s (stuckDropEvent s)
  | stuckEnded (s : State) : Event s (stuckEndEvent s)
  | mholdRose (s : State) : Event s (holdRequestEvent s)
  | mholdFell (s : State) (mrdy : Bool) : Event s (mholdFalls mrdy s)
  | frameBegun (s : State) : Event s (frameStartEvent s)
  | frameEnded (s : State) : Event s (frameEndEvent s)
  | lclkRose (s : State) (ldi : Bool) : Event s (driveRising s ldi)
  | bitShifted (s : State) (ldi : Bool) : Event s (shiftEdge ldi s)
  | commandRefused (s : State) (r : ResultCode) : Event s (refuseCommand s r)
  | commandTaken (s t : State) (k : LinkCommand) (params resp : List Byte) (rep : Report) (h : k.outcome params s = .taken t resp rep) :
      Event s (toResult (if k.alwaysTaken then t else storeResult t .ok) .ok resp rep)
  | lclkFell (s : State) : Event s (fallingEdge s)
  | idleTimersTicked (s : State) : Event s (tickIdleTimers s)
  | readyTimerCounted (s : State) (n : Nat) (armed : s.msq.timer = some n) :
      Event s { s with msq := { s.msq with timer := some (n - 1) } }

/-- A chain of events. -/
abbrev Events : State → State → Prop := Relation.ReflTransGen Event

theorem Event.one {s t : State} (h : Event s t) : Events s t := .single h

/-- What every event keeps, a chain of events keeps. -/
theorem Events.keep {P : State → Prop} (hP : ∀ {s t}, Event s t → P s → P t) {s t : State} (h : Events s t) (hs : P s) : P t := by
  induction h with
  | refl => exact hs
  | tail _ he ih => exact hP he ih

/-! ## What no event changes -/

theorem closeAllOpen_frame (s : State) : closeAllOpen s = { s with mb := (closeAllOpen s).mb, mq := (closeAllOpen s).mq } :=
  (closeAllOpen_closesOnly s).frame

/-- A command changes the table, the entries, the queue, the latch and the CMU alone. -/
theorem CommandEffect.frame {s t : State} (h : CommandEffect s t) :
    t = { s with rt := t.rt, mb := t.mb, mq := t.mq, ral := t.ral, cmu := t.cmu } := by
  cases h with
  | none | region | timing | memory => rfl
  | flush | restart => rw [closeAllOpen_frame]

/-- So does a taken command at its apply point, but for the link that it takes to RESULT (R154). -/
theorem commandTaken_frame {s t : State} {k : LinkCommand} {params resp : List Byte} {rep : Report}
    (h : k.outcome params s = .taken t resp rep) :
    toResult (if k.alwaysTaken then t else storeResult t .ok) .ok resp rep =
      { s with
        rt := t.rt, mb := t.mb, mq := t.mq, ral := t.ral
        cmu := { t.cmu with lastResult := if k.alwaysTaken then t.cmu.lastResult else .ok }
        cfl := ⟨.result, s.cfl.byteCount + 1, 0, 0, none, [], bitsOf ResultCode.ok.code ++ resp.flatMap bitsOf, rep, s.cfl.ldo⟩ } := by
  have hf := (outcome_taken h).frame
  cases k.alwaysTaken <;> rw [hf] <;> rfl

/-- No event changes the level of RSTN or the waiting commands. -/
theorem Event.rstn_pending {s t : State} (h : Event s t) : t.inp.rstn = s.inp.rstn ∧ t.pending = s.pending := by
  cases h with
  | placementTaken => rw [takeWaitingPlacement_frame]; exact ⟨rfl, rfl⟩
  | readAnswered => rw [answerRead_frame]; exact ⟨rfl, rfl⟩
  | flushDoneSet => rw [setFlushDone_frame]; exact ⟨rfl, rfl⟩
  | granted => rw [takeGrant_frame]; exact ⟨rfl, rfl⟩
  | restartEnded => rw [endRestart_frame]; exact ⟨rfl, rfl⟩
  | requestSeen => rw [seeRequest_frame]; exact ⟨rfl, rfl⟩
  | hreqFell => rw [hreqLowEvent_frame]; exact ⟨rfl, rfl⟩
  | idleExpired i => rw [(expireEntry_closesOnly i s).frame]; exact ⟨rfl, rfl⟩
  | itemBegun => rw [beginItemEvent_frame]; exact ⟨rfl, rfl⟩
  | strobeWritten => rw [strobeWriteCompleteEvent_frame]; exact ⟨rfl, rfl⟩
  | rmwRead md => rw [rmwReadCompleteEvent_frame]; exact ⟨rfl, rfl⟩
  | rmwWritten => rw [rmwWriteCompleteEvent_frame]; exact ⟨rfl, rfl⟩
  | wordRead md => rw [readCompleteEvent_frame]; exact ⟨rfl, rfl⟩
  | mrdyReleased => rw [mrdyReleaseEvent_frame]; exact ⟨rfl, rfl⟩
  | readyTimedOut => rw [readyTimeoutEvent_frame]; exact ⟨rfl, rfl⟩
  | timedOutAgain => rw [secondExpiryEvent_frame]; exact ⟨rfl, rfl⟩
  | recovered => rw [recoverEndEvent_frame]; exact ⟨rfl, rfl⟩
  | readyUnasked => rw [unsolicitedReadyEvent_frame]; exact ⟨rfl, rfl⟩
  | headDropped => rw [stuckDropEvent_frame]; exact ⟨rfl, rfl⟩
  | stuckEnded => rw [stuckEndEvent_frame]; exact ⟨rfl, rfl⟩
  | mholdRose => rw [holdRequestEvent_frame]; exact ⟨rfl, rfl⟩
  | mholdFell mrdy => rw [mholdFalls_frame]; exact ⟨rfl, rfl⟩
  | frameBegun => rw [frameStartEvent_frame]; exact ⟨rfl, rfl⟩
  | bitShifted ldi => rw [shiftEdge_frame]; exact ⟨rfl, rfl⟩
  | commandTaken u k params resp rep h => rw [commandTaken_frame h]; exact ⟨rfl, rfl⟩
  | idleTimersTicked => rw [tickIdleTimers_frame]; exact ⟨rfl, rfl⟩
  | requestDriven | answerEnded | frameEnded | lclkRose | commandRefused | lclkFell | readyTimerCounted => exact ⟨rfl, rfl⟩

theorem Events.rstn_pending {s t : State} (h : Events s t) : t.inp.rstn = s.inp.rstn ∧ t.pending = s.pending :=
  h.keep (P := fun u => u.inp.rstn = s.inp.rstn ∧ u.pending = s.pending)
    (fun e hs => ⟨e.rstn_pending.1.trans hs.1, e.rstn_pending.2.trans hs.2⟩) ⟨rfl, rfl⟩

/-! ## Due work and the host port -/

/-- In IDLE nothing of the host port is due, so due work leaves the HPC alone (R48, R49). -/
theorem takeDue_hpc_of_idle {s : State} (hi : s.hpc.state = .idle) : (takeDue s).hpc = s.hpc := by
  have h1 : takeWaitingPlacement s = s := by simp [takeWaitingPlacement, placementDue, waitingWrite, hi]
  have h2 : answerRead s = s := by simp [answerRead, readDue, hi]
  have h3 : (setFlushDone s).hpc = s.hpc := by rw [setFlushDone_frame]
  have h4 (u : State) : (takeGrant u).hpc = u.hpc := by rw [takeGrant_frame]
  have h5 {u : State} (hu : u.hpc = s.hpc) : (endRestart u).hpc = u.hpc := by
    unfold endRestart
    split
    · simp [hu, hi]
    · rfl
  rw [takeDue, h1, h2, h5 ((h4 _).trans h3), h4, h3]

/-- Due work is a chain of its five events. -/
theorem takeDue_events (s : State) : Events s (takeDue s) :=
  ((((Event.placementTaken s).one.tail (.readAnswered _)).tail (.flushDoneSet _)).tail (.granted _)).tail (.restartEnded _)

/-- Due work leaves the pins, the link and the waiting commands alone. -/
theorem takeDue_frame (s : State) :
    takeDue s =
      { s with
        mb := (takeDue s).mb, mq := (takeDue s).mq, ral := (takeDue s).ral, rg := (takeDue s).rg, hpc := (takeDue s).hpc
        rt := (takeDue s).rt, flog := (takeDue s).flog, cmu := (takeDue s).cmu, hld := (takeDue s).hld, msq := (takeDue s).msq } := by
  unfold takeDue
  rw [endRestart_frame, takeGrant_frame, setFlushDone_frame, answerRead_frame, takeWaitingPlacement_frame]

/-- A request that stands at the pins is seen in a CLK period when the HPC is in IDLE, after due work (R48). -/
theorem hostActs_events (s : State) : Events s (hostActs s) := by
  unfold hostActs
  split
  · rename_i h
    refine (takeDue_events s).tail (.requestSeen _ ?_ (by rw [takeDue_hpc_of_idle h.2, h.2]))
    rw [takeDue_frame, h.1]
  · exact .refl

/-! ## The link -/

theorem applyCommand_events (k : LinkCommand) (params : List Byte) (s : State) : Events s (applyCommand k params s) := by
  unfold applyCommand
  split
  · exact (Event.commandRefused s _).one
  · split
    · exact (Event.commandRefused s _).one
    · exact (Event.commandTaken s _ k params _ _ ‹_›).one

theorem risingEdge_events (ldi : Bool) (s : State) : Events s (risingEdge ldi s) := by
  refine (Event.lclkRose s ldi).one.trans ?_
  unfold risingEdge
  split
  · exact applyCommand_events _ _ _
  · exact (Event.commandRefused _ _).one
  · exact (Event.bitShifted _ _).one

/-! ## Rows and CLK periods as chains of events -/

/-- A row of a running part does what is due and then its own event (log entry 2). -/
theorem running_events {own : State → State} (hown : ∀ u, Events u (own u)) (s : State) : Events s (running own s) := by
  unfold running
  split
  · exact (takeDue_events s).trans (hown _)
  · exact .refl

theorem applyRow_events (k : LinkCommand) (ldi : Bool) (s : State) : ∃ t, applyRow k ldi s = .next t ∧ Events s t := by
  refine ⟨_, rfl, running_events (fun u => ?_) s⟩
  split
  · split
    · exact (Event.lclkRose u ldi).one.trans (applyCommand_events _ _ _)
    · exact .refl
  all_goals exact .refl

/-- The answer of a row that is due work itself: it does it where it is due, and otherwise what every row begins with. -/
theorem dueRow_events {s t : State} {due : Prop} [Decidable due] (h : Event s t) :
    ∃ u, (if s.inp.rstn ∧ due then .next t else .next (running id s) : Host.Outcome State Fault Refusal) = .next u ∧ Events s u := by
  split
  · exact ⟨_, rfl, h.one⟩
  · exact ⟨_, rfl, running_events (fun _ => .refl) s⟩

/-- The answer of a row whose own event is one of the bridge's. -/
theorem ownRow_events {f : State → State} (hf : ∀ u, Event u (f u)) (s : State) :
    ∃ t, (.next (running f s) : Host.Outcome State Fault Refusal) = .next t ∧ Events s t :=
  ⟨_, rfl, running_events (fun u => (hf u).one) s⟩

theorem hostRequest_events {s : State} (hr : s.inp.rstn = true) (w : Bool) (a : BitVec 22) (l : BitVec 4) (d : HostWord) :
    ∃ t, execHostRequest w a l d s = .next t ∧ Events s t := by
  have hdue := (takeDue_events s).tail (.requestDriven _ ⟨w, a, l, d⟩)
  dsimp only [execHostRequest]
  rw [if_pos hr]
  split
  · rename_i hi
    refine ⟨_, rfl, (hdue.tail (.answerEnded _)).tail (.requestSeen _ rfl ?_)⟩
    simpa [takeDue_hpc_of_idle hi] using hi
  · exact ⟨_, rfl, hdue⟩

theorem idleExpiry_events (n : Nat) (s : State) : ∃ t, execIdleExpiry n s = .next t ∧ Events s t := by
  refine ⟨_, rfl, running_events (fun u => ?_) s⟩
  split
  · exact (Event.idleExpired u _).one
  · exact .refl

theorem unknownCommand_events (ldi : Bool) (s : State) : ∃ t, execUnknownCommand ldi s = .next t ∧ Events s t := by
  refine ⟨_, rfl, running_events (fun u => ?_) s⟩
  split
  · exact (Event.lclkRose u ldi).one.tail (.commandRefused _ _)
  all_goals exact .refl

theorem readFaultCompletion_events (s : State) : ∃ t, execReadFaultCompletion s = .next t ∧ Events s t := by
  refine ⟨_, rfl, running_events (fun u => ?_) s⟩
  split
  · exact .refl
  · split
    · exact risingEdge_events _ u
    · exact .refl

/-- The answer of a row that does what is due and then its own events, and that RSTN shuts out otherwise. -/
theorem linkRow_events {s t : State} {f : State → State} (hr : s.inp.rstn = true) (hf : ∀ u, Events u (f u)) :
    ∃ u, (if s.inp.rstn then .next (f (takeDue s)) else .next t : Host.Outcome State Fault Refusal) = .next u ∧ Events s u :=
  ⟨_, if_pos hr, (takeDue_events s).trans (hf _)⟩

/-- Every command of a running part but RSTN_ASSERT is a chain of events. -/
theorem exec_events {s : State} (hr : s.inp.rstn = true) {c : Instr} (hc : c ≠ .rstnAssert) : ∃ t, exec c s = .next t ∧ Events s t := by
  have idle {t : State} : ∃ u, (if s.inp.rstn then .next (running id s) else .next t : Host.Outcome State Fault Refusal) = .next u ∧ Events s u :=
    ⟨_, if_pos hr, running_events (fun _ => .refl) s⟩
  cases c with
  | hostRequest w a l d => exact hostRequest_events hr w a l d
  | readAnswer => exact dueRow_events (.readAnswered s)
  | hreqLow =>
    exact ⟨_, if_pos hr, ((Event.answerEnded s).one.trans (takeDue_events _)).tail (.hreqFell _)⟩
  | waitingPlacementTaken => exact dueRow_events (.placementTaken s)
  | idleExpiry n => exact idleExpiry_events n s
  | beginItem => exact ownRow_events .itemBegun s
  | strobeWriteComplete => exact ownRow_events .strobeWritten s
  | rmwReadComplete md => exact ownRow_events (.rmwRead · md) s
  | rmwWriteComplete => exact ownRow_events .rmwWritten s
  | readComplete md => exact ownRow_events (.wordRead · md) s
  | mrdyRelease => exact ownRow_events .mrdyReleased s
  | readyTimeout => exact ownRow_events .readyTimedOut s
  | secondExpiry => exact ownRow_events .timedOutAgain s
  | recoverEnd => exact ownRow_events .recovered s
  | unsolicitedReady => exact ownRow_events .readyUnasked s
  | stuckDrop => exact ownRow_events .headDropped s
  | stuckEnd => exact ownRow_events .stuckEnded s
  | holdRequest => exact ownRow_events .mholdRose s
  | holdGrant => exact dueRow_events (.granted s)
  | holdWithdraw => exact ownRow_events (fun u => .mholdFell u u.inp.mrdy) s
  | holdRelease mrdy => exact ownRow_events (.mholdFell · mrdy) s
  | rstnAssert => exact absurd rfl hc
  | rstnRelease | mholdDuringReset => exact idle
  | frameStart => exact linkRow_events hr fun u => (Event.frameBegun u).one
  | frameEnd => exact linkRow_events hr fun u => (Event.frameEnded u).one
  | unknownCommand ldi => exact unknownCommand_events ldi s
  | readFaultCompletion => exact readFaultCompletion_events s
  | flushDone => exact dueRow_events (.flushDoneSet s)
  | restartEnd => exact dueRow_events (.restartEnded s)
  | lclkRisingEdge ldi => exact linkRow_events hr (risingEdge_events ldi)
  | lclkFallingEdge => exact linkRow_events hr fun u => (Event.lclkFell u).one
  | readStatus | readFault | readRegion | setWindow | setSurface | setMode | setBand | setScroll | setCursorWindow | setCursor
  | revisitBegin | revisitEnd | enable | disable | flush | setTiming | setMemory | restart => exact applyRow_events _ _ s

/-! ## A CLK period -/

theorem tickReadyTimer_events (s : State) : Events s (tickReadyTimer s) := by
  obtain h | ⟨n, hn, -, h⟩ | h | h := tickReadyTimer_cases s <;> rw [h]
  · exact (Event.readyTimerCounted s n hn).one
  · exact (Event.readyTimedOut s).one
  · exact (Event.timedOutAgain s).one

theorem sequencerActs_events (s : State) : Events s (sequencerActs s) := by
  unfold sequencerActs
  split
  · split
    · exact (Event.readyUnasked s).one
    · exact (Event.itemBegun s).one
  · split
    · exact (Event.headDropped s).one
    · exact (Event.stuckEnded s).one
  all_goals exact .refl

theorem tickSequencer_events (s : State) : Events s (tickSequencer s) := by
  unfold tickSequencer
  split
  · exact tickReadyTimer_events s
  · exact sequencerActs_events s

/-- A CLK period of a running part is a chain of events (log entry 4). -/
theorem clockTick_events (s : State) : Events s (clockTick s) := by
  unfold clockTick
  split
  · exact ((((Event.answerEnded s).one.trans (takeDue_events _)).tail (.idleTimersTicked _)).trans (tickSequencer_events _)).trans
      (hostActs_events _)
  · exact .refl

/-! ## Commands while RSTN is asserted -/

/-- While RSTN is asserted only the pins move, but for the release and for RSTN_ASSERT; with MHOLD the memory outputs move too (R65, R150). -/
theorem exec_of_reset {s : State} (hr : s.inp.rstn = false) (c : Instr) :
    (∃ p : Inputs, exec c s = .next { s with inp := p } ∧ p.rstn = false ∧ p.mhold = s.inp.mhold ∧ p.mrdy = s.inp.mrdy)
      ∨ (c = .rstnAssert ∧ exec c s = .next (assertReset s))
      ∨ (∃ mrdy, c = .rstnRelease mrdy ∧ exec c s = .next (releaseReset mrdy s))
      ∨ ∃ level, c = .mholdDuringReset level
        ∧ exec c s = .next { s with inp := { s.inp with mhold := level }, msq := { s.msq with port := resetPort level } } := by
  have shut {t u : State} : (if s.inp.rstn then .next t else .next u : Host.Outcome State Fault Refusal) = .next u :=
    if_neg (by simp [hr])
  have pins {o : Host.Outcome State Fault Refusal} (p : Inputs) (h : o = .next { s with inp := p })
      (hp : p.rstn = false ∧ p.mhold = s.inp.mhold ∧ p.mrdy = s.inp.mrdy) :
      ∃ p : Inputs, o = .next { s with inp := p } ∧ p.rstn = false ∧ p.mhold = s.inp.mhold ∧ p.mrdy = s.inp.mrdy := ⟨p, h, hp⟩
  have same {own : State → State} :
      ∃ p : Inputs, (.next (running own s) : Host.Outcome State Fault Refusal) = .next { s with inp := p }
        ∧ p.rstn = false ∧ p.mhold = s.inp.mhold ∧ p.mrdy = s.inp.mrdy :=
    pins s.inp (by rw [running_of_reset hr]) ⟨hr, rfl, rfl⟩
  have due {d : Prop} [Decidable d] {t : State} :
      ∃ p : Inputs, (if s.inp.rstn ∧ d then .next t else .next (running id s) : Host.Outcome State Fault Refusal) = .next { s with inp := p }
        ∧ p.rstn = false ∧ p.mhold = s.inp.mhold ∧ p.mrdy = s.inp.mrdy :=
    pins s.inp (by rw [if_neg (by simp [hr]), running_of_reset hr]) ⟨hr, rfl, rfl⟩
  cases c with
  | hostRequest w a l d => exact .inl (pins { s.inp with hreq := true, lines := ⟨w, a, l, d⟩ } (if_neg (by simp [hr])) ⟨hr, rfl, rfl⟩)
  | hreqLow | frameStart | frameEnd | lclkRisingEdge | lclkFallingEdge => exact .inl (pins _ shut ⟨hr, rfl, rfl⟩)
  | readAnswer | waitingPlacementTaken | holdGrant | flushDone | restartEnd => exact .inl due
  | rstnAssert => exact .inr (.inl ⟨rfl, rfl⟩)
  | rstnRelease mrdy => exact .inr (.inr (.inl ⟨mrdy, rfl, shut⟩))
  | mholdDuringReset level => exact .inr (.inr (.inr ⟨level, rfl, shut⟩))
  | _ => exact .inl same

/-! ## A step -/

/-- The state in which a step begins: the front command is taken out of the queue. -/
def popped (s : State) : State := { s with pending := s.pending.tail }

/-- What a step is: a chain of events of a running part, RSTN_ASSERT, or, while RSTN is asserted, a move of the pins, the release, or a move
of MHOLD with the memory outputs. -/
theorem step_cases {s t : State} (h : step s = .next t) :
    (s.inp.rstn = true ∧ Events (popped s) t)
      ∨ t = assertReset (popped s)
      ∨ (s.inp.rstn = false ∧
          ((∃ p : Inputs, t = { popped s with inp := p } ∧ p.rstn = false ∧ p.mhold = s.inp.mhold)
            ∨ (∃ mrdy, t = releaseReset mrdy (popped s))
            ∨ ∃ level, t = { popped s with inp := { s.inp with mhold := level }, msq := { s.msq with port := resetPort level } })) := by
  unfold step at h
  split at h
  · rename_i hp
    cases h
    have hs : popped s = s := by cases s; simp_all [popped]
    rw [hs]
    cases hr : s.inp.rstn
    · exact .inr (.inr ⟨rfl, .inl ⟨s.inp, clockTick_of_reset hr, hr, rfl⟩⟩)
    · exact .inl ⟨rfl, clockTick_events s⟩
  · rename_i c rest hp
    have hs : { s with pending := rest } = popped s := by simp [popped, hp]
    rw [hs] at h
    cases hr : s.inp.rstn
    · obtain ⟨p, he, hp, hm, -⟩ | ⟨-, he⟩ | ⟨mrdy, -, he⟩ | ⟨level, -, he⟩ := exec_of_reset (s := popped s) hr c <;> rw [he] at h <;> cases h
      · exact .inr (.inr ⟨rfl, .inl ⟨p, rfl, hp, hm⟩⟩)
      · exact .inr (.inl rfl)
      · exact .inr (.inr ⟨rfl, .inr (.inl ⟨mrdy, rfl⟩)⟩)
      · exact .inr (.inr ⟨rfl, .inr (.inr ⟨level, rfl⟩)⟩)
    · by_cases hc : c = .rstnAssert
      · subst hc
        cases h
        exact .inr (.inl rfl)
      · obtain ⟨u, hu, he⟩ := exec_events (s := popped s) hr hc
        rw [hu] at h
        cases h
        exact .inl ⟨rfl, he⟩

end Sys2Proof.Machine
end

-- ==== The table and the settings ====
section
/-! PROOFS. What every step keeps of the region table and the settings (R15, R18, R21, R26, R67, R164): a record stays in range whichever way
a command or a claim changes it, and only commands, claims and the resets change the table and the settings. -/

namespace Sys2Proof.Machine

/-! ## Records -/

/-- A record in range, with its cursor fields in agreement, that passes the ENABLE checks where it is ENABLED (R15, R21, R26, R67). -/
abbrev Region.Ok (words : Nat) (r : Region) : Prop := r.inRange ∧ r.cursorOk ∧ (r.enabled = true → r.enableChecks words = true)

theorem Region.enableChecks_iff {r : Region} {words : Nat} :
    r.enableChecks words = true ↔
      r.windowFits = true ∧ r.rowFits = true ∧ r.surfaceFits words = true ∧ r.windowMatches = true ∧ r.bandFits = true
        ∧ r.scrollFits r.scroll = true ∧ r.cursorFits = true := by
  simp only [Region.enableChecks, Bool.and_eq_true, and_assoc]

/-- A cursor that moves inside its window keeps the record's ranges and checks (R21, R70, R75). -/
theorem Region.Ok.withCursor {words : Nat} {r : Region} (h : r.Ok words) {p : Position} (hp : r.inCursorWindow p = true) :
    Region.Ok words { r with cursor := p } := by
  obtain ⟨hrange, ⟨-, hmark, hrev, hstream⟩, hen⟩ := h
  refine ⟨hrange, ⟨hp, hmark, hrev, hstream⟩, fun he => ?_⟩
  obtain ⟨h1, h2, h3, h4, h5, h6, h7⟩ := Region.enableChecks_iff.mp (hen he)
  refine Region.enableChecks_iff.mpr ⟨h1, h2, h3, h4, h5, h6, ?_⟩
  simp only [Region.cursorFits, Bool.or_eq_true, Bool.and_eq_true] at h7 ⊢
  exact h7.imp id fun h => ⟨h.1, hp⟩

/-- The record's reset values are in range and agree (R15). -/
theorem Region.ok_reset (words : Nat) : Region.reset.Ok words := by
  refine ⟨by decide, by decide, nofun⟩

/-- Every way in which a command changes a record keeps its ranges and checks (R15, R21, R22, R25, R26). -/
theorem RegionChange.ok {words : Nat} {r r' : Region} (hc : RegionChange words r r') (h : r.Ok words) : r'.Ok words := by
  have hok := h
  obtain ⟨⟨hwin, hsurf, hband, hcw⟩, ⟨hcur, hmark, hrev, hstream⟩, hen⟩ := h
  cases hc with
  | window base length off range => exact ⟨⟨range, hsurf, hband, hcw⟩, ⟨hcur, hmark, hrev, hstream⟩, fun he => by simp_all⟩
  | surface base pitch width height f off range =>
    obtain ⟨hb, ⟨hp, hp'⟩, ⟨hw, hw'⟩, hh, hh'⟩ := range
    exact ⟨⟨hwin, ⟨hb, hp, hp', hw, hw', hh, hh'⟩, hband, hcw⟩, ⟨hcur, hmark, hrev, hstream⟩, fun he => by simp_all⟩
  | mode kind access op mx my scan ra off =>
    have hoff : r.revisit = false := Bool.eq_false_of_not_eq_true fun hr => by simp_all
    exact ⟨⟨hwin, hsurf, hband, hcw⟩, ⟨hcur, hmark, hrev, fun hr => by simp_all⟩, fun he => by simp_all⟩
  | band top rows off range =>
    exact ⟨⟨hwin, hsurf, ⟨range.1, range.2.1, range.2.2, hband.2.2.2⟩, hcw⟩, ⟨hcur, hmark, hrev, hstream⟩, fun he => by simp_all⟩
  | scroll offset range fits =>
    refine ⟨⟨hwin, hsurf, ⟨hband.1, hband.2.1, hband.2.2.1, range⟩, hcw⟩, ⟨hcur, hmark, hrev, hstream⟩, fun he => ?_⟩
    obtain ⟨h1, h2, h3, h4, h5, -, h7⟩ := Region.enableChecks_iff.mp (hen he)
    exact Region.enableChecks_iff.mpr ⟨h1, h2, h3, h4, h5, fits he, h7⟩
  | cursorWindow x0 x1 y0 y1 range fits =>
    have hin : Region.inCursorWindow { r with x0 := x0, x1 := x1, y0 := y0, y1 := y1 } ⟨x0, y0⟩ = true := by
      rw [Region.inCursorWindow_iff]
      exact ⟨Nat.le_refl _, range.1, Nat.le_refl _, range.2.2.1⟩
    refine ⟨⟨hwin, hsurf, hband, range⟩, ⟨hin, nofun, rfl, nofun⟩, fun he => ?_⟩
    obtain ⟨h1, h2, h3, h4, h5, h6, -⟩ := Region.enableChecks_iff.mp (hen he)
    refine Region.enableChecks_iff.mpr ⟨h1, h2, h3, h4, h5, h6, ?_⟩
    exact Bool.or_eq_true_iff.mpr (.inr (Bool.and_eq_true_iff.mpr ⟨fits he, hin⟩))
  | cursor p inside => exact hok.withCursor inside
  | revisitBegun kind on =>
    refine ⟨⟨hwin, hsurf, hband, hcw⟩, ⟨hcur, fun m hm => ?_, rfl, fun _ => ⟨on, kind⟩⟩, hen⟩
    obtain rfl : r.cursor = m := by simpa using hm
    exact hcur
  | revisitEnded revisit =>
    have hin : r.inCursorWindow (r.mark.getD r.cursor) = true := by
      cases hm : r.mark with
      | none => exact hcur
      | some m => exact hmark m hm
    obtain ⟨hrange, ⟨hc, -, -, -⟩, he⟩ := hok.withCursor hin
    exact ⟨hrange, ⟨hc, nofun, rfl, nofun⟩, he⟩
  | enabled off checks => exact ⟨⟨hwin, hsurf, hband, hcw⟩, ⟨hcur, hmark, hrev, fun hr => by simp_all⟩, fun _ => checks⟩
  | disabled => exact ⟨⟨hwin, hsurf, hband, hcw⟩, ⟨hcur, nofun, rfl, nofun⟩, nofun⟩

/-! ## The table -/

/-- The table and the settings as the claims want them. -/
abbrev TableAndSettingsOk (s : State) : Prop := TableOk s ∧ SettingsOk s

theorem tableAndSettingsOk_of_eq {s t : State} (hrt : t.rt = s.rt) (hset : t.cmu.settings = s.cmu.settings) (h : TableAndSettingsOk s) :
    TableAndSettingsOk t := by
  simpa only [TableAndSettingsOk, TableOk, SettingsOk, hrt, hset] using h

/-- One record is changed, in range. -/
theorem tableAndSettingsOk_of_set {s t : State} {n : Fin 8} {r : Region} (hrt : t.rt = s.rt.set n r)
    (hset : t.cmu.settings = s.cmu.settings) (hr : r.Ok (memoryWords s.cmu.settings.memorySize)) (h : TableAndSettingsOk s) :
    TableAndSettingsOk t := by
  refine ⟨fun k => ?_, by simpa only [SettingsOk, hset] using h.2⟩
  rw [hrt, hset]
  by_cases hk : n = k
  · subst hk
    simpa using hr
  · simpa [Vector.getElem_set, Fin.val_inj, hk] using h.1 k

/-- The table and the settings at their reset values (R15, R164). -/
theorem tableAndSettingsOk_of_reset {s : State} (hrt : s.rt = Vector.replicate 8 .reset) (hset : s.cmu.settings = .reset) :
    TableAndSettingsOk s := by
  refine ⟨fun n => ?_, by rw [SettingsOk, hset]; decide⟩
  have hn : s.rt[n] = Region.reset := by simp [hrt]
  rw [hn]
  exact Region.ok_reset _

theorem CommandEffect.table {s t : State} (h : CommandEffect s t) (hs : TableAndSettingsOk s) : TableAndSettingsOk t := by
  cases h with
  | none => exact hs
  | region n r change => exact tableAndSettingsOk_of_set rfl rfl (change.ok (hs.1 n)) hs
  | timing delay timeout range => exact ⟨hs.1, hs.2.1, range⟩
  | memory size pass policy off range =>
    exact ⟨fun n => ⟨(hs.1 n).1, (hs.1 n).2.1, fun he => by simp_all⟩, range, hs.2.2⟩
  | flush | restart => exact tableAndSettingsOk_of_eq (s := s) (by rw [closeAllOpen_frame]) rfl hs

/-- A claim changes at most a stream region's cursor, to a position that it reaches in scan order (R69 to R71). -/
theorem claimRegion_rt (s : State) (l : HostLines) (n : Fin 8) :
    (claimRegion s l n).rt = s.rt
      ∨ ∃ k, (claimRegion s l n).rt = s.rt.set n { s.rt[n] with cursor := (s.rt[n]).advance k (s.rt[n]).cursor } := by
  dsimp only [claimRegion]
  split
  · exact .inl rfl
  · split
    · exact .inl rfl
    · split
      · rw [startAccess_frame]
        exact .inl rfl
      · rw [startAccess_frame]
        split
        · exact .inl (by simp)
        · exact .inr ⟨_, rfl⟩

theorem takeRequest_rt (s : State) :
    (takeRequest s).rt = s.rt
      ∨ ∃ (n : Fin 8) (k : Nat), (takeRequest s).rt = s.rt.set n { s.rt[n] with cursor := (s.rt[n]).advance k (s.rt[n]).cursor } := by
  dsimp only [takeRequest]
  split
  · exact .inl rfl
  · split
    · exact .inl rfl
    · rename_i n _
      exact (claimRegion_rt s _ n).imp id fun h => ⟨n, h⟩
    · rw [startAccess_frame]
      exact .inl rfl

theorem takeRequest_table {s : State} (h : TableAndSettingsOk s) : TableAndSettingsOk (takeRequest s) := by
  have hset : (takeRequest s).cmu.settings = s.cmu.settings := by rw [takeRequest_frame]
  obtain hrt | ⟨n, k, hrt⟩ := takeRequest_rt s
  · exact tableAndSettingsOk_of_eq hrt hset h
  · exact tableAndSettingsOk_of_set hrt hset (Region.Ok.withCursor (h.1 n) (Region.inCursorWindow_advance k (h.1 n).2.1.1)) h

theorem seeRequest_table {s : State} (h : TableAndSettingsOk s) : TableAndSettingsOk (seeRequest s) := by
  unfold seeRequest
  split
  · exact tableAndSettingsOk_of_eq rfl rfl h
  · exact takeRequest_table h

theorem endRestart_table {s : State} (h : TableAndSettingsOk s) : TableAndSettingsOk (endRestart s) := by
  unfold endRestart
  split
  · have hreset : TableAndSettingsOk (restartReset s) := tableAndSettingsOk_of_reset rfl rfl
    split
    · exact takeRequest_table hreset
    · exact hreset
  · exact h

/-! ## The steps -/

/-- Every event keeps the table and the settings. -/
theorem Event.table {s t : State} (h : Event s t) (hs : TableAndSettingsOk s) : TableAndSettingsOk t := by
  cases h with
  | requestSeen => exact seeRequest_table hs
  | restartEnded => exact endRestart_table hs
  | commandTaken u k params resp rep h =>
    exact tableAndSettingsOk_of_eq (by rw [commandTaken_frame h]) (by rw [commandTaken_frame h]) ((outcome_taken h).table hs)
  | placementTaken => exact tableAndSettingsOk_of_eq (by rw [takeWaitingPlacement_frame]) (by rw [takeWaitingPlacement_frame]) hs
  | readAnswered => exact tableAndSettingsOk_of_eq (by rw [answerRead_frame]) (by rw [answerRead_frame]) hs
  | flushDoneSet => exact tableAndSettingsOk_of_eq (by rw [setFlushDone_frame]) (by rw [setFlushDone_frame]) hs
  | granted => exact tableAndSettingsOk_of_eq (by rw [takeGrant_frame]) (by rw [takeGrant_frame]) hs
  | hreqFell => exact tableAndSettingsOk_of_eq (by rw [hreqLowEvent_frame]) (by rw [hreqLowEvent_frame]) hs
  | idleExpired i => exact tableAndSettingsOk_of_eq (by rw [(expireEntry_closesOnly i s).frame]) (by rw [(expireEntry_closesOnly i s).frame]) hs
  | itemBegun => exact tableAndSettingsOk_of_eq (by rw [beginItemEvent_frame]) (by rw [beginItemEvent_frame]) hs
  | strobeWritten => exact tableAndSettingsOk_of_eq (by rw [strobeWriteCompleteEvent_frame]) (by rw [strobeWriteCompleteEvent_frame]) hs
  | rmwRead md => exact tableAndSettingsOk_of_eq (by rw [rmwReadCompleteEvent_frame]) (by rw [rmwReadCompleteEvent_frame]) hs
  | rmwWritten => exact tableAndSettingsOk_of_eq (by rw [rmwWriteCompleteEvent_frame]) (by rw [rmwWriteCompleteEvent_frame]) hs
  | wordRead md => exact tableAndSettingsOk_of_eq (by rw [readCompleteEvent_frame]) (by rw [readCompleteEvent_frame]) hs
  | mrdyReleased => exact tableAndSettingsOk_of_eq (by rw [mrdyReleaseEvent_frame]) (by rw [mrdyReleaseEvent_frame]) hs
  | readyTimedOut => exact tableAndSettingsOk_of_eq (by rw [readyTimeoutEvent_frame]) (by rw [readyTimeoutEvent_frame]) hs
  | timedOutAgain => exact tableAndSettingsOk_of_eq (by rw [secondExpiryEvent_frame]) (by rw [secondExpiryEvent_frame]) hs
  | recovered => exact tableAndSettingsOk_of_eq (by rw [recoverEndEvent_frame]) (by rw [recoverEndEvent_frame]) hs
  | readyUnasked => exact tableAndSettingsOk_of_eq (by rw [unsolicitedReadyEvent_frame]) (by rw [unsolicitedReadyEvent_frame]) hs
  | headDropped => exact tableAndSettingsOk_of_eq (by rw [stuckDropEvent_frame]) (by rw [stuckDropEvent_frame]) hs
  | stuckEnded => exact tableAndSettingsOk_of_eq (by rw [stuckEndEvent_frame]) (by rw [stuckEndEvent_frame]) hs
  | mholdRose => exact tableAndSettingsOk_of_eq (by rw [holdRequestEvent_frame]) (by rw [holdRequestEvent_frame]) hs
  | mholdFell mrdy => exact tableAndSettingsOk_of_eq (by rw [mholdFalls_frame]) (by rw [mholdFalls_frame]) hs
  | frameBegun => exact tableAndSettingsOk_of_eq (by rw [frameStartEvent_frame]) (by rw [frameStartEvent_frame]) hs
  | bitShifted ldi => exact tableAndSettingsOk_of_eq (by rw [shiftEdge_frame]) (by rw [shiftEdge_frame]) hs
  | idleTimersTicked => exact tableAndSettingsOk_of_eq (by rw [tickIdleTimers_frame]) (by rw [tickIdleTimers_frame]) hs
  | requestDriven | answerEnded | frameEnded | lclkRose | commandRefused | lclkFell | readyTimerCounted =>
    exact tableAndSettingsOk_of_eq rfl rfl hs

/-- Settles O8: every event of a running part keeps the table and the settings, and RSTN sets them to values in range. -/
theorem everyStepKeepsTableAndSettings : Obligations.EveryStepKeepsTableAndSettings := by
  intro s htable hset t ht
  have hs : TableAndSettingsOk (popped s) := ⟨htable, hset⟩
  obtain ⟨-, hev⟩ | rfl | ⟨-, ⟨p, rfl, -⟩ | ⟨mrdy, rfl⟩ | ⟨level, rfl⟩⟩ := step_cases ht
  · exact hev.keep Event.table hs
  · exact tableAndSettingsOk_of_reset rfl rfl
  all_goals exact tableAndSettingsOk_of_eq rfl rfl hs

end Sys2Proof.Machine
end

-- ==== Reset, the queue of commands, and requests that only wait ====
section
/-! PROOFS. What RSTN does to every block (R65, R126, R150), that no command stops the part or touches the queue of commands, and the
requests that only wait or end (R48, R49, R52). -/

open Sys2Proof Sys2Proof.Machine

namespace Sys2Proof.Machine

/-! ## The waiting commands -/

/-- Settles O1: `step` is that by its definition. -/
theorem stepTakesTheFrontCommand : Obligations.StepTakesTheFrontCommand := by
  intro s c rest h
  simp only [step, h]

/-- Settles O2: a command of a running part is a chain of events, none of which touches the waiting commands, and while RSTN is asserted
only pins and reset values move. -/
theorem noCommandStopsTheBlock : Obligations.NoCommandStopsTheBlock := by
  intro c s
  cases hr : s.inp.rstn
  · obtain ⟨p, h, -⟩ | ⟨-, h⟩ | ⟨m, -, h⟩ | ⟨l, -, h⟩ := exec_of_reset hr c <;> exact ⟨_, h, rfl⟩
  · by_cases hc : c = .rstnAssert
    · subst hc
      exact ⟨assertReset s, rfl, rfl⟩
    · obtain ⟨t, h, he⟩ := exec_events hr hc
      exact ⟨t, h, he.rstn_pending.2⟩

/-! ## Reset -/

/-- Settles O5: `assertReset` gives each block its reset value, and MHLDA and the memory outputs follow the MHOLD that the pins keep. -/
theorem rstnAssertResetsEveryBlock : Obligations.RstnAssertResetsEveryBlock := by
  intro s
  refine ⟨assertReset s, rfl, rfl, rfl, rfl, fun n => ?_, fun i => ?_, rfl, rfl, rfl, rfl, rfl, ?_, ?_, rfl, rfl, rfl, rfl, rfl, rfl,
    rfl, rfl, rfl, rfl, rfl, rfl, rfl⟩
  · simp [assertReset, Region.reset]
  · simp [assertReset]
  · cases hm : s.inp.mhold <;> simp [assertReset, State.mcs, resetPort, hm]
  · cases hm : s.inp.mhold <;> simp [assertReset, resetPort, hm]

/-- Settles O6: the release reads MHOLD for the HLD and the MSQ and LSEL for the CFL. -/
theorem rstnReleaseTakesTheHoldLine : Obligations.RstnReleaseTakesTheHoldLine := by
  intro s mrdy hr
  refine ⟨releaseReset mrdy s, if_neg (by simp [hr]), rfl, fun h => ?_, fun h => ?_, ?_, ?_, ?_⟩
  · simp [releaseReset, State.mhlda, h]
  · simp [releaseReset, State.mhlda, h, Hld.reset, Msq.reset]
  · simp only [releaseReset]
    split <;> rfl
  · simp only [releaseReset]
    split <;> rfl
  · simp only [releaseReset]
    split <;> rfl

/-- Settles O7: `exec_of_reset` lists what a command can do while RSTN is asserted. -/
theorem onlyPinsMoveDuringReset : Obligations.OnlyPinsMoveDuringReset := by
  intro s hr
  have hm (level : Bool) : exec (.mholdDuringReset level) s =
      .next { s with inp := { s.inp with mhold := level }, msq := { s.msq with port := if level then .floated else .deselected } } :=
    if_neg (by simp [hr])
  refine ⟨hm, fun level t ht => ?_, fun c hrel hmh has => ?_⟩
  · rw [hm] at ht
    cases ht
    simp [State.mhlda, hr]
  · obtain ⟨p, h, hp⟩ | ⟨h, -⟩ | ⟨m, h, -⟩ | ⟨l, h, -⟩ := exec_of_reset hr c
    · exact ⟨_, h, rfl, hp⟩
    · exact absurd h has
    · exact absurd h (hrel m)
    · exact absurd h (hmh l)

/-- With no entry, no item, no READ and no operation, nothing can disagree. -/
theorem queueOk_of_empty {s : State} (hmb : ∀ i : Fin 8, s.mb[i] = none) (hmq : s.mq = []) (hrg : s.rg = none) (hl : s.ral.latch = none)
    (hp : s.ral.prefetch = none) (hop : s.msq.op = none) (hr : s.msq.state ≠ .reading) (hw : s.msq.state ≠ .writing) (hm : s.mcs = false)
    (hf : s.cmu.flushMark = none) (hd : s.hld.drainMark = none) (hg : s.hpc.state ≠ .gathering) : QueueOk s := by
  have hnone : NoneActive s := fun i => by rw [hmb i]; rfl
  refine ⟨fun i j e he => ?_, fun i => ?_, ⟨?_, fun k => ?_, ?_, ?_⟩, ⟨?_, ?_⟩, ?_, fun l hl' => ?_, fun p hp' => ?_, fun m hm' => ?_, fun m hm' => ?_⟩
  · simp [hmb] at he
  · simp [hmb, hmq, waitsInQueue]
  · simp [hmq]
  · simp [hmq, queuedAt, hrg]
  · simp [hrg]
  · simp [hrg, hg]
  · simp [hmq]
  · simp [hmq, hp]
  · simpa [sequencerOk, hop, hm] using ⟨⟨hr, hw⟩, hnone⟩
  · simp [hl] at hl'
  · simp [hp] at hp'
  · simp [hf] at hm'
  · simp [hd] at hm'

/-- Settles O13: the part resets to `State.reset`, whose table, entries, queue and log are empty. -/
theorem resetStateMeetsTheInvariants : Obligations.ResetStateMeetsTheInvariants := by
  refine ⟨fun s b hi hp => ⟨assertReset s, rfl, ?_⟩, ?_⟩
  · simp [exec, execRstnRelease, assertReset, releaseReset, State.reset, hi, hp, Inputs.reset]
  · have htable : TableAndSettingsOk State.reset := tableAndSettingsOk_of_reset rfl rfl
    have hqueue : QueueOk State.reset :=
      queueOk_of_empty (fun i => by simp [State.reset]) rfl rfl rfl rfl rfl (by decide) (by decide) rfl rfl rfl (by decide)
    exact ⟨by decide, htable.1, htable.2, by decide, by decide, by decide, by decide, by decide, hqueue⟩

/-! ## Requests that wait, and the end of one -/

/-- Settles O22: the HPC sees a request in IDLE alone, and while RESTART is in progress it defers one with a lane enabled. -/
theorem requestWaitsOutsideIdleAndRestart : Obligations.RequestWaitsOutsideIdleAndRestart := by
  intro s write a lanes d hq
  refine ⟨fun hi => ?_, fun hi hr hl => ?_⟩
  · change execHostRequest write a lanes d s = _
    simp [execHostRequest, hq.1, hi, takeDue_of_settled hq.2, driveRequest]
  · rw [exec_hostRequest_of_idle hq hi, seeRequest, if_pos (by simpa using ⟨hr, hl⟩), requestSeen_eq]

/-- Settles O34: the fall of HREQ acts on the state with the answer's lines already low, and ends ANSWERED and DEFERRED alone. -/
theorem hreqLowEndsTheAnswerOnly : Obligations.HreqLowEndsTheAnswerOnly := by
  intro s hq
  have hd : takeDue (endAnswer s) = endAnswer s := takeDue_of_settled (by simpa using hq.2)
  change execHreqLow s = _
  rw [execHreqLow, if_pos hq.1, hd]
  by_cases he : s.hpc.state = .answered ∨ s.hpc.state = .deferred <;> simp [hreqLowEvent, endAnswer, he]

end Sys2Proof.Machine
end

-- ==== What a sequencer event does ====
section
/-! PROOFS. What each event of the memory sequencer does, said once (R114 to R124): it leaves the state, or it finds the operation or the head
item that it is about and then does what its rule says. -/

namespace Sys2Proof.Machine

/-- The operation in flight, found in an MSQ state and step (R113). -/
theorem opIn_eq_some {s : State} {st : MsqState} {step : OpStep} {o : Operation} :
    opIn s st step = some o ↔ s.msq.state = st ∧ s.msq.op = some o ∧ o.step = step := by
  unfold opIn
  split
  · split
    · split <;> simp_all <;> rintro rfl <;> assumption
    · simp_all
  · simp_all

/-- An item that reads this word: a READ item (R107). -/
def Item.reads (w : Nat) : Item → Prop
  | .gather v _ _ => v = w
  | .prefetch v _ => v = w
  | .entry _ => False

/-- How the head item is begun (R114): an entry as a strobe write or as the read of a read-modify-write, a READ item as a read. -/
theorem beginHead_cases (s : State) :
    beginHead s = s
      ∨ (∃ (i : Fin 8) (rest : List Item) (e : Entry), s.mq = .entry i :: rest ∧ s.mb[i] = some e ∧
          (beginHead s = beginStrobeWrite s i e ∨ beginHead s = beginRmw s i e))
      ∨ ∃ x w rest, s.mq = x :: rest ∧ x.reads w ∧ beginHead s = beginRead s x w := by
  unfold beginHead
  split
  · split
    · split
      · exact .inr (.inl ⟨_, _, _, ‹_›, ‹_›, .inl rfl⟩)
      · exact .inr (.inl ⟨_, _, _, ‹_›, ‹_›, .inr rfl⟩)
      · exact .inl rfl
    · exact .inl rfl
  · exact .inr (.inr ⟨.gather _ _ _, _, _, ‹_›, Eq.refl _, rfl⟩)
  · exact .inr (.inr ⟨.prefetch _ _, _, _, ‹_›, Eq.refl _, rfl⟩)
  · exact .inl rfl

theorem mayBegin_iff {s : State} : mayBegin s = true ↔ s.msq.state = .idle ∧ s.inp.mrdy = false ∧ headPermitted s = true := by
  simp [mayBegin, and_assoc]

theorem beginItemEvent_cases (s : State) : beginItemEvent s = s ∨ (s.msq.state = .idle ∧ beginItemEvent s = beginHead s) := by
  unfold beginItemEvent
  split
  · exact .inr ⟨(mayBegin_iff.mp ‹_›).1, rfl⟩
  · exact .inl rfl

theorem strobeWriteCompleteEvent_cases (s : State) :
    strobeWriteCompleteEvent s = s
      ∨ ∃ o, s.msq.state = .writing ∧ s.msq.op = some o ∧ o.step = .ready ∧ o.kind = .strobeWrite
          ∧ strobeWriteCompleteEvent s = writeCompletes s o := by
  unfold strobeWriteCompleteEvent
  split
  · obtain ⟨hst, hop, hstep⟩ := opIn_eq_some.mp ‹_›
    split
    · exact .inr ⟨_, hst, hop, hstep, ‹_›, rfl⟩
    all_goals exact .inl rfl
  · exact .inl rfl

theorem rmwWriteCompleteEvent_cases (s : State) :
    rmwWriteCompleteEvent s = s
      ∨ ∃ o v, s.msq.state = .writing ∧ s.msq.op = some o ∧ o.step = .ready ∧ o.kind = .rmw v
          ∧ rmwWriteCompleteEvent s = writeCompletes s o := by
  unfold rmwWriteCompleteEvent
  split
  · obtain ⟨hst, hop, hstep⟩ := opIn_eq_some.mp ‹_›
    split
    · exact .inr ⟨_, _, hst, hop, hstep, ‹_›, rfl⟩
    all_goals exact .inl rfl
  · exact .inl rfl

theorem rmwReadCompleteEvent_cases (md : Word) (s : State) :
    rmwReadCompleteEvent md s = s
      ∨ ∃ (o : Operation) (v : Option Word) (i : Fin 8) (e : Entry), s.msq.state = .reading ∧ s.msq.op = some o ∧ o.step = .ready
          ∧ o.kind = .rmw v ∧ o.item = .entry i ∧ s.mb[i] = some e ∧ rmwReadCompleteEvent md s = rmwReadCompletes s o i e md := by
  unfold rmwReadCompleteEvent
  split
  · obtain ⟨hst, hop, hstep⟩ := opIn_eq_some.mp ‹_›
    split
    · split
      · exact .inr ⟨_, _, _, _, hst, hop, hstep, ‹_›, ‹_›, ‹_›, rfl⟩
      · exact .inl rfl
    · exact .inl rfl
  · exact .inl rfl

theorem readCompleteEvent_cases (md : Word) (s : State) :
    readCompleteEvent md s = s
      ∨ ∃ o, s.msq.state = .reading ∧ s.msq.op = some o ∧ o.step = .ready ∧ o.kind = .read
          ∧ readCompleteEvent md s = removeHead (deliverRead (completeOp (sampleMd s md) o) md o.item) := by
  unfold readCompleteEvent
  split
  · obtain ⟨hst, hop, hstep⟩ := opIn_eq_some.mp ‹_›
    split
    · exact .inr ⟨_, hst, hop, hstep, ‹_›, rfl⟩
    all_goals exact .inl rfl
  · exact .inl rfl

/-- MRDY low in a release step begins the write of a read-modify-write after its read, and ends any other operation (R115 to R118). -/
theorem mrdyReleaseEvent_cases (s : State) :
    mrdyReleaseEvent s = s
      ∨ (∃ o w, s.msq.state = .reading ∧ s.msq.op = some o ∧ o.step = .release ∧ o.kind = .rmw (some w)
          ∧ mrdyReleaseEvent s = beginOp (seeMrdy s false) .writing { o with step := .ready } .write true 3#2 (some w))
      ∨ ∃ o, s.msq.op = some o ∧ o.step = .release ∧ (s.msq.state = .writing ∨ s.msq.state = .reading ∧ ∀ w, o.kind ≠ .rmw (some w))
          ∧ mrdyReleaseEvent s = msqIdle (seeMrdy s false) := by
  unfold mrdyReleaseEvent
  split
  · obtain ⟨hst, hop, hstep⟩ := opIn_eq_some.mp ‹_›
    split
    · exact .inr (.inl ⟨_, _, hst, hop, hstep, ‹_›, rfl⟩)
    all_goals exact .inr (.inr ⟨_, hop, hstep, .inr ⟨hst, by simp_all⟩, rfl⟩)
  · split
    · obtain ⟨hst, hop, hstep⟩ := opIn_eq_some.mp ‹_›
      exact .inr (.inr ⟨_, hop, hstep, .inl hst, rfl⟩)
    · exact .inl rfl

theorem readyTimeoutEvent_cases (s : State) :
    readyTimeoutEvent s = s
      ∨ ∃ o, s.msq.op = some o ∧ (s.msq.state = .reading ∨ s.msq.state = .writing)
          ∧ readyTimeoutEvent s = msqRecover (timeoutItem s o) s.msq.last := by
  unfold readyTimeoutEvent
  split
  · split
    · exact .inr ⟨_, ‹_›, ‹_›, rfl⟩
    · exact .inl rfl
  · exact .inl rfl

theorem secondExpiryEvent_cases (s : State) :
    secondExpiryEvent s = s ∨ (s.msq.state = .recover ∧ secondExpiryEvent s = msqStuck (recordFault s (stuckFault s.msq.stuckOf))) := by
  unfold secondExpiryEvent
  split
  · exact .inr ⟨‹_›, rfl⟩
  · exact .inl rfl

theorem recoverEndEvent_cases (s : State) :
    recoverEndEvent s = s ∨ (s.msq.state = .recover ∧ recoverEndEvent s = msqIdle (seeMrdy s false)) := by
  unfold recoverEndEvent
  split
  · exact .inr ⟨‹_›, rfl⟩
  · exact .inl rfl

theorem stuckEndEvent_cases (s : State) :
    stuckEndEvent s = s ∨ (s.msq.state = .stuck ∧ stuckEndEvent s = msqIdle (seeMrdy s false)) := by
  unfold stuckEndEvent
  split
  · exact .inr ⟨‹_›, rfl⟩
  · exact .inl rfl

theorem unsolicitedReadyEvent_cases (s : State) :
    unsolicitedReadyEvent s = s ∨ unsolicitedReadyEvent s = seeMrdy s true
      ∨ (s.msq.state = .idle ∧ unsolicitedReadyEvent s = msqRecover (seeMrdy s true) none) := by
  unfold unsolicitedReadyEvent
  split <;> simp_all

theorem stuckDropEvent_cases (s : State) : stuckDropEvent s = s ∨ (s.msq.state = .stuck ∧ stuckDropEvent s = dropHead s) := by
  unfold stuckDropEvent
  split
  · exact .inr ⟨(‹_ ∧ _› : _ ∧ _).1, rfl⟩
  · exact .inl rfl

/-- The grant (R145): a request that was PENDING, and the MSQ free of an operation. -/
theorem takeGrant_cases (s : State) :
    takeGrant s = s ∨ ∃ p, s.hld.state = .pending p ∧ (s.msq.state = .idle ∨ s.msq.state = .stuck) ∧ takeGrant s = grantPort s p := by
  unfold takeGrant
  split
  · rename_i p hp
    refine .inr ⟨p, ?_⟩
    unfold grantDue at hp
    split at hp <;> simp_all [portFree]
  · exact .inl rfl

/-- The fall of MHOLD (R147, R148). -/
theorem mholdFalls_cases (mrdy : Bool) (s : State) :
    (s.hld.state = .none ∧ mholdFalls mrdy s = { s with inp := { s.inp with mhold := false } })
      ∨ (∃ p, s.hld.state = .pending p
          ∧ mholdFalls mrdy s = beginItemEvent { s with inp := { s.inp with mhold := false }, hld := ⟨.none, none⟩ })
      ∨ ∃ p, s.hld.state = .granted p
          ∧ mholdFalls mrdy s =
              { s with
                inp := { s.inp with mhold := false, mrdy := mrdy }
                hld := ⟨.none, none⟩
                msq := ⟨if mrdy then .stuck else .idle, none, none, s.msq.last, none, .deselected⟩ } := by
  dsimp only [mholdFalls]
  split
  · exact .inl ⟨‹_›, rfl⟩
  · exact .inr (.inl ⟨_, ‹_›, rfl⟩)
  · refine .inr (.inr ⟨_, ‹_›, ?_⟩)
    cases mrdy <;> rfl

/-- MHOLD rises (R142). -/
theorem holdRequestEvent_cases (s : State) :
    holdRequestEvent s = s ∨ (s.hld.state = .none ∧ holdRequestEvent s = takeHoldRequest s) := by
  unfold holdRequestEvent
  split
  · exact .inr ⟨‹_›, rfl⟩
  all_goals exact .inl rfl

end Sys2Proof.Machine
end

-- ==== The memory port ====
section
/-! PROOFS. Who owns the memory port and when the ready timer is armed (R119, R125, R126, R145, R150): the four ways in which an event may move
the sequencer with the port, and that each of them keeps the owner and the timer. -/

namespace Sys2Proof.Machine

/-- How an event may move the MSQ with the port and the hold: not at all, by an operation's step outside HELD, by the grant, or by the release. -/
inductive PortMove (s t : State) : Prop
  | kept (state : t.msq.state = s.msq.state) (port : t.msq.port = s.msq.port) (timer : t.msq.timer.isSome = s.msq.timer.isSome)
      (owner : t.hld.isGranted = s.hld.isGranted)
  | worked (before : s.msq.state ≠ .held) (after : t.msq.state ≠ .held) (port : t.msq.port ≠ .floated) (timer : TimerOk t)
      (owner : t.hld.isGranted = s.hld.isGranted)
  | granted (state : t.msq.state = .held) (port : t.msq.port = .floated) (timer : t.msq.timer = none) (owner : t.hld.isGranted = true)
  | released (state : t.msq.state = .idle ∨ t.msq.state = .stuck) (port : t.msq.port = .deselected) (timer : t.msq.timer = none)
      (owner : t.hld.isGranted = false)

theorem PortMove.of_eq {s t : State} (hm : t.msq = s.msq) (hh : t.hld.isGranted = s.hld.isGranted) : PortMove s t :=
  .kept (by rw [hm]) (by rw [hm]) (by rw [hm]) hh

theorem PortMove.rfl {s : State} : PortMove s s := .of_eq (Eq.refl _) (Eq.refl _)

/-- The port is granted exactly in HELD, and floated exactly then; `PortOk` of a running part. -/
abbrev PortOwned (s : State) : Prop :=
  (s.hld.isGranted = decide (s.msq.state = .held)) ∧ (decide (s.msq.port = .floated) = decide (s.msq.state = .held))

theorem PortMove.owned {s t : State} (h : PortMove s t) (hs : PortOwned s) : PortOwned t := by
  cases h with
  | kept state port timer owner => simpa only [PortOwned, state, port, owner] using hs
  | worked before after port timer owner => exact ⟨by simp [owner, hs.1, before, after], by simp [port, after]⟩
  | granted state port timer owner => exact ⟨by simp [owner, state], by simp [port, state]⟩
  | released state port timer owner => rcases state with state | state <;> exact ⟨by simp [owner, state], by simp [port, state]⟩

theorem PortMove.timer {s t : State} (h : PortMove s t) (hs : TimerOk s) : TimerOk t := by
  cases h with
  | kept state port timer owner => simpa only [TimerOk, state, timer] using hs
  | worked before after port timer owner => exact timer
  | granted state port timer owner => simp [TimerOk, state, timer]
  | released state port timer owner => rcases state with state | state <;> simp [TimerOk, state, timer]

/-! ## The sequencer -/

theorem beginHead_portMove {s : State} (h : s.msq.state = .idle) : PortMove s (beginHead s) := by
  obtain hb | ⟨i, rest, e, -, -, hb | hb⟩ | ⟨x, w, rest, -, -, hb⟩ := beginHead_cases s <;> rw [hb]
  · exact .rfl
  all_goals exact .worked (by simp [h]) nofun nofun (Eq.refl true) (Eq.refl _)

theorem beginItemEvent_portMove (s : State) : PortMove s (beginItemEvent s) := by
  obtain h | ⟨hi, h⟩ := beginItemEvent_cases s <;> rw [h]
  · exact .rfl
  · exact beginHead_portMove hi

/-- A completion in READING or WRITING drops MCS and arms the timer for the release step (R115, R119). -/
theorem portMove_of_completed {s t : State} (hs : s.msq.state = .reading ∨ s.msq.state = .writing) (hst : t.msq.state = s.msq.state)
    (hp : t.msq.port = .deselected) (ht : t.msq.timer.isSome = true) (hh : t.hld.isGranted = s.hld.isGranted) : PortMove s t := by
  refine .worked ?_ ?_ (by simp [hp]) ?_ hh
  all_goals rcases hs with h | h <;> simp [TimerOk, h, hst, ht]

theorem writeCompletes_msq (s : State) (o : Operation) : (writeCompletes s o).msq = (completeOp s o).msq := by
  unfold writeCompletes endEntryItem
  split <;> rfl

theorem writeCompletes_owner (s : State) (o : Operation) : (writeCompletes s o).hld.isGranted = s.hld.isGranted := by
  rw [writeCompletes_frame]
  rfl

theorem writeCompletes_portMove {s : State} (o : Operation) (h : s.msq.state = .writing) : PortMove s (writeCompletes s o) := by
  refine portMove_of_completed (.inr h) ?_ ?_ ?_ (writeCompletes_owner s o)
  all_goals rw [writeCompletes_msq]; rfl

theorem strobeWriteCompleteEvent_portMove (s : State) : PortMove s (strobeWriteCompleteEvent s) := by
  obtain h | ⟨o, hst, -, -, -, h⟩ := strobeWriteCompleteEvent_cases s <;> rw [h]
  · exact .rfl
  · exact writeCompletes_portMove o hst

theorem rmwWriteCompleteEvent_portMove (s : State) : PortMove s (rmwWriteCompleteEvent s) := by
  obtain h | ⟨o, v, hst, -, -, -, h⟩ := rmwWriteCompleteEvent_cases s <;> rw [h]
  · exact .rfl
  · exact writeCompletes_portMove o hst

theorem rmwReadCompleteEvent_portMove (md : Word) (s : State) : PortMove s (rmwReadCompleteEvent md s) := by
  obtain h | ⟨o, v, i, e, hst, -, -, -, -, -, h⟩ := rmwReadCompleteEvent_cases md s <;> rw [h]
  · exact .rfl
  · exact portMove_of_completed (.inl hst) (Eq.refl _) (Eq.refl _) (Eq.refl _) (Eq.refl _)

theorem deliverRead_msq_hld (s : State) (d : Word) (x : Item) : (deliverRead s d x).msq = s.msq ∧ (deliverRead s d x).hld = s.hld := by
  cases x <;> exact ⟨rfl, rfl⟩

theorem readCompleteEvent_portMove (md : Word) (s : State) : PortMove s (readCompleteEvent md s) := by
  obtain h | ⟨o, hst, -, -, -, h⟩ := readCompleteEvent_cases md s <;> rw [h]
  · exact .rfl
  · refine portMove_of_completed (.inl hst) ?_ ?_ ?_ ?_
    all_goals simp [deliverRead_msq_hld, Hld.isGranted]

theorem mrdyReleaseEvent_portMove (s : State) : PortMove s (mrdyReleaseEvent s) := by
  obtain h | ⟨o, w, hst, -, -, -, h⟩ | ⟨o, -, -, hst, h⟩ := mrdyReleaseEvent_cases s <;> rw [h]
  · exact .rfl
  · exact .worked (by simp [hst]) nofun nofun (Eq.refl true) (Eq.refl _)
  · refine .worked ?_ nofun nofun (Eq.refl false) (Eq.refl _)
    rcases hst with hst | ⟨hst, -⟩ <;> simp [hst]

theorem readyTimeoutEvent_portMove (s : State) : PortMove s (readyTimeoutEvent s) := by
  obtain h | ⟨o, -, hst, h⟩ := readyTimeoutEvent_cases s <;> rw [h]
  · exact .rfl
  · refine .worked ?_ nofun nofun (Eq.refl true) ?_
    · rcases hst with hst | hst <;> simp [hst]
    · rw [msqRecover_hld, timeoutItem_frame]
      rfl

theorem secondExpiryEvent_portMove (s : State) : PortMove s (secondExpiryEvent s) := by
  obtain h | ⟨hst, h⟩ := secondExpiryEvent_cases s <;> rw [h]
  · exact .rfl
  · exact .worked (by simp [hst]) nofun nofun (Eq.refl false) (Eq.refl _)

theorem recoverEndEvent_portMove (s : State) : PortMove s (recoverEndEvent s) := by
  obtain h | ⟨hst, h⟩ := recoverEndEvent_cases s <;> rw [h]
  · exact .rfl
  · exact .worked (by simp [hst]) nofun nofun (Eq.refl false) (Eq.refl _)

theorem stuckEndEvent_portMove (s : State) : PortMove s (stuckEndEvent s) := by
  obtain h | ⟨hst, h⟩ := stuckEndEvent_cases s <;> rw [h]
  · exact .rfl
  · exact .worked (by simp [hst]) nofun nofun (Eq.refl false) (Eq.refl _)

theorem unsolicitedReadyEvent_portMove (s : State) : PortMove s (unsolicitedReadyEvent s) := by
  obtain h | h | ⟨hst, h⟩ := unsolicitedReadyEvent_cases s <;> rw [h]
  · exact .rfl
  · exact .of_eq (Eq.refl _) (Eq.refl _)
  · exact .worked (by simp [hst]) nofun nofun (Eq.refl true) (Eq.refl _)

/-! ## The hold -/

theorem takeGrant_portMove (s : State) : PortMove s (takeGrant s) := by
  obtain h | ⟨p, -, -, h⟩ := takeGrant_cases s <;> rw [h]
  · exact .rfl
  · exact .granted (Eq.refl _) (Eq.refl _) (Eq.refl _) (Eq.refl _)

theorem mholdFalls_portMove (mrdy : Bool) (s : State) : PortMove s (mholdFalls mrdy s) := by
  obtain ⟨-, h⟩ | ⟨p, hp, h⟩ | ⟨p, -, h⟩ := mholdFalls_cases mrdy s <;> rw [h]
  · exact .of_eq (Eq.refl _) (Eq.refl _)
  · have hs : s.hld.isGranted = false := by simp [Hld.isGranted, hp]
    obtain hb | ⟨hst, hb⟩ := beginItemEvent_cases { s with inp := { s.inp with mhold := false }, hld := ⟨.none, none⟩ } <;> rw [hb]
    · exact .of_eq (Eq.refl _) hs.symm
    · have hm := beginHead_portMove hst
      cases hm with
      | kept state port timer owner => exact .kept state port timer (owner.trans hs.symm)
      | worked before after port timer owner => exact .worked before after port timer (owner.trans hs.symm)
      | granted state port timer owner => exact .granted state port timer owner
      | released state port timer owner => exact .released state port timer owner
  · exact .released (by cases mrdy <;> simp) (Eq.refl _) (Eq.refl _) (Eq.refl _)

theorem holdRequestEvent_portMove (s : State) : PortMove s (holdRequestEvent s) := by
  have hm : (holdRequestEvent s).msq = s.msq := by rw [holdRequestEvent_frame]
  refine .of_eq hm ?_
  obtain h | ⟨hn, h⟩ := holdRequestEvent_cases s <;> rw [h]
  unfold takeHoldRequest
  split <;> simp [Hld.isGranted, hn]

/-! ## The steps -/

/-- Every event moves the port in one of the four ways. -/
theorem Event.portMove {s t : State} (h : Event s t) : PortMove s t := by
  cases h with
  | granted => exact takeGrant_portMove s
  | itemBegun => exact beginItemEvent_portMove s
  | strobeWritten => exact strobeWriteCompleteEvent_portMove s
  | rmwRead md => exact rmwReadCompleteEvent_portMove md s
  | rmwWritten => exact rmwWriteCompleteEvent_portMove s
  | wordRead md => exact readCompleteEvent_portMove md s
  | mrdyReleased => exact mrdyReleaseEvent_portMove s
  | readyTimedOut => exact readyTimeoutEvent_portMove s
  | timedOutAgain => exact secondExpiryEvent_portMove s
  | recovered => exact recoverEndEvent_portMove s
  | readyUnasked => exact unsolicitedReadyEvent_portMove s
  | stuckEnded => exact stuckEndEvent_portMove s
  | mholdRose => exact holdRequestEvent_portMove s
  | mholdFell mrdy => exact mholdFalls_portMove mrdy s
  | readyTimerCounted n armed => exact .kept (Eq.refl _) (Eq.refl _) (by simp [armed]) (Eq.refl _)
  | placementTaken => exact .of_eq (by rw [takeWaitingPlacement_frame]) (by rw [takeWaitingPlacement_frame])
  | readAnswered => exact .of_eq (by rw [answerRead_frame]) (by rw [answerRead_frame])
  | flushDoneSet => exact .of_eq (by rw [setFlushDone_frame]) (by rw [setFlushDone_frame])
  | restartEnded => exact .of_eq (by rw [endRestart_frame]) (by rw [endRestart_frame])
  | requestSeen => exact .of_eq (by rw [seeRequest_frame]) (by rw [seeRequest_frame])
  | hreqFell => exact .of_eq (by rw [hreqLowEvent_frame]) (by rw [hreqLowEvent_frame])
  | idleExpired i => exact .of_eq (by rw [(expireEntry_closesOnly i s).frame]) (by rw [(expireEntry_closesOnly i s).frame])
  | headDropped => exact .of_eq (by rw [stuckDropEvent_frame]) (by rw [stuckDropEvent_frame]; rfl)
  | frameBegun => exact .of_eq (by rw [frameStartEvent_frame]) (by rw [frameStartEvent_frame])
  | bitShifted ldi => exact .of_eq (by rw [shiftEdge_frame]) (by rw [shiftEdge_frame])
  | commandTaken u k params resp rep h => exact .of_eq (by rw [commandTaken_frame h]) (by rw [commandTaken_frame h])
  | idleTimersTicked => exact .of_eq (by rw [tickIdleTimers_frame]) (by rw [tickIdleTimers_frame])
  | requestDriven | answerEnded | frameEnded | lclkRose | commandRefused | lclkFell => exact .of_eq (Eq.refl _) (Eq.refl _)

theorem Events.portOwned {s t : State} (h : Events s t) (hs : PortOwned s) : PortOwned t := h.keep (fun e => e.portMove.owned) hs

theorem Events.timerOk {s t : State} (h : Events s t) (hs : TimerOk s) : TimerOk t := h.keep (fun e => e.portMove.timer) hs

/-- What a step keeps is the same before and after the front command is taken out of the queue. -/
theorem resetHolds_popped {s : State} (h : ResetHolds s) : ResetHolds (popped s) := fun hr => by
  have := h hr
  unfold popped
  rw [this]
  rfl

/-- The reset values hold whatever the pins do while RSTN is asserted, as long as the outputs follow MHOLD (R126, R150). -/
theorem eq_assertReset_of_pins {s : State} (h : s = assertReset s) (p : Inputs) (hp : p.rstn = false) :
    ({ s with inp := p, msq := { s.msq with port := resetPort p.mhold } } : State)
      = assertReset { s with inp := p, msq := { s.msq with port := resetPort p.mhold } } := by
  rw [h]
  cases p
  cases hp
  rfl

theorem resetHolds_of_pins {s : State} (h : ResetHolds s) (hr : s.inp.rstn = false) {p : Inputs} (hp : p.rstn = false)
    (hm : p.mhold = s.inp.mhold) : ResetHolds { s with inp := p } := fun _ => by
  have hs := h hr
  have hport : s.msq = { s.msq with port := resetPort p.mhold } := by
    rw [hm]
    conv_lhs => rw [hs]
    conv_rhs => rw [hs]
    rfl
  have := eq_assertReset_of_pins hs p hp
  rwa [← hport] at this

/-- Settles O10: on a running part RSTN stays released and every event moves the port in one of four ways; while RSTN is asserted the pins
alone move, and the outputs with MHOLD. -/
theorem everyStepKeepsResetValuesAndPortOwner : Obligations.EveryStepKeepsResetValuesAndPortOwner := by
  intro s t ht
  obtain ⟨hr, hev⟩ | rfl | ⟨hr, ⟨p, rfl, hp, hm⟩ | ⟨mrdy, rfl⟩ | ⟨level, rfl⟩⟩ := step_cases ht
  · have hrt : t.inp.rstn = true := hev.rstn_pending.1.trans hr
    exact ⟨fun _ hf => absurd hf (by simp [hrt]), fun h _ => hev.portOwned (h hr), hev.timerOk⟩
  · refine ⟨fun _ _ => rfl, fun _ hf => ?_, fun _ => rfl⟩
    cases hf
  · exact ⟨fun h => resetHolds_of_pins (resetHolds_popped h) hr hp hm, fun _ hf => absurd hf (by simp [hp]), id⟩
  · refine ⟨fun _ hf => ?_, fun _ _ => ?_, fun _ => ?_⟩
    · cases hf
    all_goals cases hm : s.inp.mhold <;> simp [TimerOk, releaseReset, popped, hm, Hld.isGranted, Hld.reset, Msq.reset]
  · refine ⟨fun h _ => ?_, fun _ hf => absurd (hr.symm.trans hf) nofun, id⟩
    exact eq_assertReset_of_pins (resetHolds_popped h hr) { s.inp with mhold := level } hr

end Sys2Proof.Machine
end

-- ==== The fault log and the host lines ====
section
/-! PROOFS. What every step keeps of the fault log, of the record that a fault report names, and of HDONE, HERR and HRD (R48, R161, R176, R177):
the ways in which an event may move the log with the report, and the host lines. -/

namespace Sys2Proof.Machine

/-! ## The log and the report -/

/-- A log with one more fault is in order (R176). -/
theorem Flog.store_ok {f : Flog} {r : FaultRecord} (h : f.records.length ≤ 4 ∧ (f.overflow = true → f.records ≠ [])) :
    (f.store r).records.length ≤ 4 ∧ ((f.store r).overflow = true → (f.store r).records ≠ []) := by
  by_cases hroom : f.records.length < 4
  · rw [Flog.store_of_room hroom]
    simpa using hroom
  · rw [Flog.store_of_full hroom]
    refine ⟨h.1, fun _ hnil => hroom ?_⟩
    simp [show f.records = [] from hnil]

/-- A log after the completion of a READ_FAULT is in order (R177). -/
theorem Flog.complete_ok {f : Flog} {reported : Option FaultRecord} (h : f.records.length ≤ 4 ∧ (f.overflow = true → f.records ≠ [])) :
    (f.complete reported).records.length ≤ 4 ∧ ((f.complete reported).overflow = true → (f.complete reported).records ≠ []) := by
  cases reported with
  | none => exact h
  | some r =>
    refine ⟨?_, fun hov (hnil : f.records.tail = []) => ?_⟩
    · simpa [Flog.complete] using Nat.le_succ_of_le h.1
    · rw [Flog.complete, if_pos hnil] at hov
      cases hov

/-- A fault behind a record leaves that record at the head of the log (R176). -/
theorem Flog.store_head {f : Flog} {r x : FaultRecord} (h : f.records.head? = some x) : (f.store r).records.head? = some x := by
  unfold Flog.store
  split
  · rw [List.head?_append, h]
    rfl
  · exact h

/-- One fault at most joins the log. -/
abbrev LogGrows (f g : Flog) : Prop := g = f ∨ ∃ r, g = f.store r

/-- How an event may move the log and the report: the log may take a fault, the completion of a READ_FAULT ends its report, a READ_FAULT names
the head of the log, and the report ends with its frame. -/
inductive LogMove (s t : State) : Prop
  | grew (report : t.cfl.report = s.cfl.report) (log : LogGrows s.flog t.flog)
  | ended (report : t.cfl.report = .plain) (log : t.flog = s.flog ∨ ∃ reported, t.flog = s.flog.complete reported)
  | named (report : t.cfl.report = .fault s.flog.records.head?) (log : t.flog = s.flog)

theorem LogMove.of_eq {s t : State} (hr : t.cfl.report = s.cfl.report) (hf : t.flog = s.flog) : LogMove s t := .grew hr (.inl hf)

theorem LogMove.logOk {s t : State} (h : LogMove s t) (hs : LogOk s) : LogOk t := by
  cases h with
  | grew _ log => obtain h | ⟨r, h⟩ := log <;> rw [LogOk, h]; exacts [hs, Flog.store_ok hs]
  | ended _ log => obtain h | ⟨r, h⟩ := log <;> rw [LogOk, h]; exacts [hs, Flog.complete_ok hs]
  | named _ log => rw [LogOk, log]; exact hs

/-- The record that a report names, if it names one, is the head of the log. -/
theorem reportOk_iff {s : State} : reportOk s = true ↔ ∀ r, s.cfl.report = .fault (some r) → s.flog.records.head? = some r := by
  unfold reportOk
  split <;> simp_all

theorem LogMove.reportOk {s t : State} (h : LogMove s t) (hs : reportOk s = true) : reportOk t = true := by
  rw [reportOk_iff] at hs ⊢
  intro r hr
  cases h with
  | grew report log =>
    have hhead := hs r (report.symm.trans hr)
    obtain h | ⟨x, h⟩ := log <;> rw [h]
    · exact hhead
    · exact Flog.store_head hhead
  | ended report log => exact absurd (report.symm.trans hr) nofun
  | named report log =>
    rw [log]
    simpa using report.symm.trans hr

theorem takeRequest_log (s : State) : LogGrows s.flog (takeRequest s).flog := by
  dsimp only [takeRequest, claimRegion]
  split
  · exact .inl rfl
  · split
    · exact .inr ⟨_, rfl⟩
    · split
      · exact .inr ⟨_, rfl⟩
      · split
        · exact .inr ⟨_, rfl⟩
        · split
          · rw [startAccess_frame]
            exact .inl rfl
          · rw [startAccess_frame]
            exact .inl rfl
    · rw [startAccess_frame]
      exact .inl rfl

theorem seeRequest_log (s : State) : LogGrows s.flog (seeRequest s).flog := by
  unfold seeRequest
  split
  · exact .inl rfl
  · exact takeRequest_log s

theorem endRestart_log (s : State) : LogGrows s.flog (endRestart s).flog := by
  unfold endRestart
  split
  · split
    · exact takeRequest_log (restartReset s)
    · exact .inl rfl
  · exact .inl rfl

theorem failEntryItem_log (s : State) (i : Fin 8) (k : FaultKind) : LogGrows s.flog (failEntryItem s i k).flog := by
  unfold failEntryItem
  split
  · exact .inr ⟨_, rfl⟩
  · exact .inl rfl

theorem failReadItem_log (s : State) (k : FaultKind) (x : Item) : LogGrows s.flog (failReadItem s k x).flog := by
  unfold failReadItem
  split
  · exact .inr ⟨_, rfl⟩
  · exact .inr ⟨_, rfl⟩
  · exact .inl rfl

theorem timeoutItem_log (s : State) (o : Operation) : LogGrows s.flog (timeoutItem s o).flog := by
  unfold timeoutItem
  split
  · split
    · exact failEntryItem_log _ _ _
    all_goals exact failReadItem_log _ _ _
  · exact .inl rfl

theorem readyTimeoutEvent_log (s : State) : LogGrows s.flog (readyTimeoutEvent s).flog := by
  obtain h | ⟨o, -, -, h⟩ := readyTimeoutEvent_cases s <;> rw [h]
  · exact .inl rfl
  · exact timeoutItem_log s o

theorem secondExpiryEvent_log (s : State) : LogGrows s.flog (secondExpiryEvent s).flog := by
  obtain h | ⟨-, h⟩ := secondExpiryEvent_cases s <;> rw [h]
  · exact .inl rfl
  · exact .inr ⟨_, rfl⟩

theorem stuckDropEvent_log (s : State) : LogGrows s.flog (stuckDropEvent s).flog := by
  obtain h | ⟨-, h⟩ := stuckDropEvent_cases s <;> rw [h]
  · exact .inl rfl
  · unfold dropHead
    split
    · exact failEntryItem_log _ _ _
    · exact failReadItem_log _ _ _
    · exact failReadItem_log _ _ _
    · exact .inl rfl

theorem shiftEdge_logMove (ldi : Bool) (s : State) : LogMove s (shiftEdge ldi s) := by
  unfold shiftEdge
  split
  iterate 2 exact .of_eq rfl rfl
  iterate 3 split <;> exact .of_eq rfl rfl
  · split
    · refine .ended rfl ?_
      cases hr : s.cfl.report <;> simp [endResponse, hr]
    · split <;> exact .of_eq rfl rfl
  · split <;> exact .of_eq rfl rfl

theorem commandTaken_logMove {s t : State} {k : LinkCommand} {params resp : List Byte} {rep : Report}
    (h : k.outcome params s = .taken t resp rep) : LogMove s (toResult (if k.alwaysTaken then t else storeResult t .ok) .ok resp rep) := by
  rw [commandTaken_frame h]
  have hrep : rep = if k = .readFault then .fault s.flog.records.head? else .plain := by
    rw [← outcome_report k params s, h]
    rfl
  by_cases hk : k = .readFault
  · exact .named (by simp [hrep, hk]) rfl
  · exact .ended (by simp [hrep, hk]) (.inl rfl)

/-- Every event moves the log and the report in one of the three ways. -/
theorem Event.logMove {s t : State} (h : Event s t) : LogMove s t := by
  cases h with
  | requestSeen => exact .grew (by rw [seeRequest_frame]) (seeRequest_log s)
  | restartEnded => exact .grew (by rw [endRestart_frame]) (endRestart_log s)
  | readyTimedOut => exact .grew (by rw [readyTimeoutEvent_frame]) (readyTimeoutEvent_log s)
  | timedOutAgain => exact .grew (by rw [secondExpiryEvent_frame]) (secondExpiryEvent_log s)
  | headDropped => exact .grew (by rw [stuckDropEvent_frame]) (stuckDropEvent_log s)
  | bitShifted ldi => exact shiftEdge_logMove ldi s
  | commandTaken u k params resp rep h => exact commandTaken_logMove h
  | commandRefused r => exact .ended rfl (.inl rfl)
  | frameEnded => exact .ended rfl (.inl rfl)
  | frameBegun =>
    unfold frameStartEvent
    split
    · exact .ended rfl (.inl rfl)
    · exact .of_eq rfl rfl
  | placementTaken => exact .of_eq (by rw [takeWaitingPlacement_frame]) (by rw [takeWaitingPlacement_frame])
  | readAnswered => exact .of_eq (by rw [answerRead_frame]) (by rw [answerRead_frame])
  | flushDoneSet => exact .of_eq (by rw [setFlushDone_frame]) (by rw [setFlushDone_frame])
  | granted => exact .of_eq (by rw [takeGrant_frame]) (by rw [takeGrant_frame])
  | hreqFell => exact .of_eq (by rw [hreqLowEvent_frame]) (by rw [hreqLowEvent_frame])
  | idleExpired i => exact .of_eq (by rw [(expireEntry_closesOnly i s).frame]) (by rw [(expireEntry_closesOnly i s).frame])
  | itemBegun => exact .of_eq (by rw [beginItemEvent_frame]) (by rw [beginItemEvent_frame])
  | strobeWritten => exact .of_eq (by rw [strobeWriteCompleteEvent_frame]) (by rw [strobeWriteCompleteEvent_frame])
  | rmwRead md => exact .of_eq (by rw [rmwReadCompleteEvent_frame]) (by rw [rmwReadCompleteEvent_frame])
  | rmwWritten => exact .of_eq (by rw [rmwWriteCompleteEvent_frame]) (by rw [rmwWriteCompleteEvent_frame])
  | wordRead md => exact .of_eq (by rw [readCompleteEvent_frame]) (by rw [readCompleteEvent_frame])
  | mrdyReleased => exact .of_eq (by rw [mrdyReleaseEvent_frame]) (by rw [mrdyReleaseEvent_frame])
  | recovered => exact .of_eq (by rw [recoverEndEvent_frame]) (by rw [recoverEndEvent_frame])
  | readyUnasked => exact .of_eq (by rw [unsolicitedReadyEvent_frame]) (by rw [unsolicitedReadyEvent_frame])
  | stuckEnded => exact .of_eq (by rw [stuckEndEvent_frame]) (by rw [stuckEndEvent_frame])
  | mholdRose => exact .of_eq (by rw [holdRequestEvent_frame]) (by rw [holdRequestEvent_frame])
  | mholdFell mrdy => exact .of_eq (by rw [mholdFalls_frame]) (by rw [mholdFalls_frame])
  | idleTimersTicked => exact .of_eq (by rw [tickIdleTimers_frame]) (by rw [tickIdleTimers_frame])
  | requestDriven | answerEnded | lclkRose | lclkFell | readyTimerCounted => exact .of_eq rfl rfl

/-! ## The host lines -/

/-- HDONE, HERR and HRD agree in an HPC (R48). -/
abbrev Hpc.LinesOk (h : Hpc) : Prop := (h.hdone = false → h.herr = false ∧ h.hrd = 0) ∧ (h.herr = true → h.hrd = 0)

theorem Hpc.linesOk_of_answer {st : HpcState} {a : Option AccessRecord} {error : Bool} {data : HostWord} (h : error = true → data = 0) :
    Hpc.LinesOk ⟨st, a, true, error, data⟩ := ⟨nofun, h⟩

theorem continueWrite_linesOk {s : State} (a : AccessRecord) (h : s.hpc.LinesOk) : (continueWrite s a).hpc.LinesOk := by
  have hp : (placeList s (a.list.drop a.next)).1.hpc = s.hpc := by rw [placeList_frame]
  dsimp only [continueWrite]
  split
  · rw [finishWrite, (completionNotification_closesOnly _).frame]
    exact Hpc.linesOk_of_answer nofun
  · rw [withNext_hpc, hp]
    exact h

theorem takeWaitingPlacement_linesOk {s : State} (h : s.hpc.LinesOk) : (takeWaitingPlacement s).hpc.LinesOk := by
  unfold takeWaitingPlacement
  split
  · split
    · exact continueWrite_linesOk _ h
    · exact h
  · exact h

/-- What the HPC is after the answer of a read (R131). -/
theorem finishRead_hpc (s : State) (g : Gather) :
    (finishRead s g).hpc = (answer { s with rg := none } g.anyFailed (if g.anyFailed then 0 else g.assembled)).hpc := by
  dsimp only [finishRead]
  split
  · split
    · split
      · rw [streamReadNotification_frame]
      · rfl
    · rfl
  · rfl

theorem answerRead_linesOk {s : State} (h : s.hpc.LinesOk) : (answerRead s).hpc.LinesOk := by
  unfold answerRead
  split
  · split
    · rw [finishRead_hpc]
      exact Hpc.linesOk_of_answer fun hf => if_pos hf
    · exact h
  · exact h

theorem startAccess_linesOk {s : State} (a : AccessRecord) (o : Origin) (f : Format) (h : s.hpc.LinesOk) :
    (startAccess s a o f).hpc.LinesOk := by
  unfold startAccess
  split
  · split
    · exact Hpc.linesOk_of_answer nofun
    · exact continueWrite_linesOk a h
  · refine answerRead_linesOk ?_
    rw [planRead_frame]
    exact h

theorem takeRequest_linesOk {s : State} (h : s.hpc.LinesOk) : (takeRequest s).hpc.LinesOk := by
  dsimp only [takeRequest, claimRegion]
  split
  · exact Hpc.linesOk_of_answer nofun
  · split
    · exact Hpc.linesOk_of_answer fun _ => rfl
    · split
      · exact Hpc.linesOk_of_answer fun _ => rfl
      · split
        · exact Hpc.linesOk_of_answer fun _ => rfl
        · split
          all_goals exact startAccess_linesOk _ _ _ h
    · exact startAccess_linesOk _ _ _ h

theorem seeRequest_linesOk {s : State} (h : s.hpc.LinesOk) : (seeRequest s).hpc.LinesOk := by
  unfold seeRequest
  split
  · exact h
  · exact takeRequest_linesOk h

theorem endRestart_linesOk {s : State} (h : s.hpc.LinesOk) : (endRestart s).hpc.LinesOk := by
  unfold endRestart
  split
  · split
    · exact takeRequest_linesOk h
    · exact h
  · exact h

theorem hreqLowEvent_linesOk {s : State} (h : s.hpc.LinesOk) : (hreqLowEvent s).hpc.LinesOk := by
  dsimp only [hreqLowEvent]
  split <;> exact h

/-- Every event keeps HDONE, HERR and HRD in agreement (R48). -/
theorem Event.linesOk {s t : State} (h : Event s t) (hs : s.hpc.LinesOk) : t.hpc.LinesOk := by
  cases h with
  | placementTaken => exact takeWaitingPlacement_linesOk hs
  | readAnswered => exact answerRead_linesOk hs
  | restartEnded => exact endRestart_linesOk hs
  | requestSeen => exact seeRequest_linesOk hs
  | hreqFell => exact hreqLowEvent_linesOk hs
  | answerEnded => exact ⟨fun _ => ⟨rfl, rfl⟩, fun _ => rfl⟩
  | flushDoneSet => rw [setFlushDone_frame]; exact hs
  | granted => rw [takeGrant_frame]; exact hs
  | idleExpired i => rw [(expireEntry_closesOnly i s).frame]; exact hs
  | itemBegun => rw [beginItemEvent_frame]; exact hs
  | strobeWritten => rw [strobeWriteCompleteEvent_frame]; exact hs
  | rmwRead md => rw [rmwReadCompleteEvent_frame]; exact hs
  | rmwWritten => rw [rmwWriteCompleteEvent_frame]; exact hs
  | wordRead md => rw [readCompleteEvent_frame]; exact hs
  | mrdyReleased => rw [mrdyReleaseEvent_frame]; exact hs
  | readyTimedOut => rw [readyTimeoutEvent_frame]; exact hs
  | timedOutAgain => rw [secondExpiryEvent_frame]; exact hs
  | recovered => rw [recoverEndEvent_frame]; exact hs
  | readyUnasked => rw [unsolicitedReadyEvent_frame]; exact hs
  | headDropped => rw [stuckDropEvent_frame]; exact hs
  | stuckEnded => rw [stuckEndEvent_frame]; exact hs
  | mholdRose => rw [holdRequestEvent_frame]; exact hs
  | mholdFell mrdy => rw [mholdFalls_frame]; exact hs
  | frameBegun => rw [frameStartEvent_frame]; exact hs
  | bitShifted ldi => rw [shiftEdge_frame]; exact hs
  | commandTaken u k params resp rep h => rw [commandTaken_frame h]; exact hs
  | idleTimersTicked => rw [tickIdleTimers_frame]; exact hs
  | requestDriven | frameEnded | lclkRose | commandRefused | lclkFell | readyTimerCounted => exact hs

/-! ## The steps -/

/-- Settles O9: every event of a running part moves the log with the report, and the host lines, in its few ways; RSTN empties the log, ends the
report and takes the lines low. -/
theorem everyStepKeepsLogAndHostLines : Obligations.EveryStepKeepsLogAndHostLines := by
  intro s t ht
  obtain ⟨-, hev⟩ | rfl | ⟨-, ⟨p, rfl, -⟩ | ⟨mrdy, rfl⟩ | ⟨level, rfl⟩⟩ := step_cases ht
  · exact ⟨fun h => hev.keep (P := LogOk) (fun e => e.logMove.logOk) h, fun h => hev.keep (P := fun u => u.hpc.LinesOk) Event.linesOk h,
      fun h => hev.keep (P := fun u => reportOk u = true) (fun e => e.logMove.reportOk) h⟩
  · exact ⟨fun _ => ⟨Nat.zero_le _, nofun⟩, fun _ => ⟨fun _ => ⟨rfl, rfl⟩, nofun⟩, fun _ => rfl⟩
  · exact ⟨id, id, id⟩
  · refine ⟨id, id, fun _ => reportOk_iff.mpr fun r hr => ?_⟩
    cases hl : s.inp.lsel <;> simp [releaseReset, popped, hl, Cfl.reset] at hr
  · exact ⟨id, id, id⟩

end Sys2Proof.Machine
end

-- ==== Closing entries in opened order ====
section
/-! PROOFS. Closing the entries that pass a test, in opened order (R92): the list of their numbers holds each once and rises by opened order, and
after it each is CLOSED with its item at the tail. -/

namespace Sys2Proof.Machine

/-! ## The entries after a write to one of them -/

@[simp] theorem mb_set_same (mb : Vector (Option Entry) 8) (i : Fin 8) (x : Option Entry) : (mb.set i x)[i] = x := by simp

theorem mb_set_other (mb : Vector (Option Entry) 8) {i j : Fin 8} (h : i ≠ j) (x : Option Entry) : (mb.set i x)[j] = mb[j] := by
  simp [Fin.val_inj, h]

theorem mb_set (mb : Vector (Option Entry) 8) (i j : Fin 8) (x : Option Entry) : (mb.set i x)[j] = if i = j then x else mb[j] := by
  split
  · subst_vars
    exact mb_set_same ..
  · exact mb_set_other _ ‹_› _

theorem mb_ext {a b : Vector (Option Entry) 8} (h : ∀ i : Fin 8, a[i] = b[i]) : a = b :=
  Vector.ext fun i hi => h ⟨i, hi⟩

/-! ## Opened order -/

theorem insertByOrder_perm (s : State) (i : Fin 8) (l : List (Fin 8)) : (insertByOrder s i l).Perm (i :: l) := by
  induction l with
  | nil => exact .refl _
  | cons j l ih =>
    unfold insertByOrder
    split
    · exact .refl _
    · exact (ih.cons j).trans (.swap i j l)

theorem insertByOrder_sorted (s : State) (i : Fin 8) {l : List (Fin 8)} (h : l.Pairwise fun i j => orderOf s i ≤ orderOf s j) :
    (insertByOrder s i l).Pairwise fun i j => orderOf s i ≤ orderOf s j := by
  induction l with
  | nil => exact List.pairwise_singleton ..
  | cons j l ih =>
    obtain ⟨hj, hl⟩ := List.pairwise_cons.mp h
    unfold insertByOrder
    split
    · refine List.pairwise_cons.mpr ⟨fun k hk => ?_, h⟩
      obtain rfl | hk := List.mem_cons.mp hk
      · omega
      · have := hj k hk
        omega
    · refine List.pairwise_cons.mpr ⟨fun k hk => ?_, ih hl⟩
      obtain rfl | hk := List.mem_cons.mp ((insertByOrder_perm s i l).mem_iff.mp hk)
      · omega
      · exact hj k hk

theorem inOpenedOrder_perm (s : State) (l : List (Fin 8)) : (inOpenedOrder s l).Perm l := by
  induction l with
  | nil => exact .refl _
  | cons i l ih => exact (insertByOrder_perm s i _).trans (ih.cons i)

theorem inOpenedOrder_sorted (s : State) (l : List (Fin 8)) :
    (inOpenedOrder s l).Pairwise fun i j => orderOf s i ≤ orderOf s j := by
  induction l with
  | nil => exact .nil
  | cons i l ih => exact insertByOrder_sorted s i ih

theorem mem_entriesWhere {s : State} {test : Entry → Bool} {i : Fin 8} : i ∈ entriesWhere s test ↔ (s.mb[i]).any test = true := by
  rw [entriesWhere, (inOpenedOrder_perm s _).mem_iff, List.mem_filter]
  cases h : s.mb[i] <;> simp

theorem nodup_entriesWhere (s : State) (test : Entry → Bool) : (entriesWhere s test).Nodup :=
  (inOpenedOrder_perm s _).nodup_iff.mpr (List.Nodup.filter _ (by decide))

/-! ## Closing a list of entries -/

/-- The entry once it has closed (R92). -/
def Entry.close (e : Entry) : Entry := { e with state := .closed }

@[simp] theorem Entry.close_isOpen (e : Entry) : e.close.isOpen = false := rfl
@[simp] theorem Entry.close_word (e : Entry) : e.close.word = e.word := rfl

theorem any_eq_true_iff {x : Option Entry} {test : Entry → Bool} : x.any test = true ↔ ∃ e, x = some e ∧ test e = true := by
  cases x <;> simp

/-- OPEN entries of a list, each named once, close: their items join the tail in the list's order (R92). -/
theorem closeEntries_eq {l : List (Fin 8)} {s : State} (hl : l.Nodup) (ho : ∀ i ∈ l, ∃ e, s.mb[i] = some e ∧ e.isOpen = true) :
    (closeEntries s l).mq = s.mq ++ l.map Item.entry
      ∧ ∀ i : Fin 8, (closeEntries s l).mb[i] = if i ∈ l then (s.mb[i]).map Entry.close else s.mb[i] := by
  induction l generalizing s with
  | nil => simp [closeEntries]
  | cons i l ih =>
    obtain ⟨hi, hl⟩ := List.nodup_cons.mp hl
    obtain ⟨e, he, heo⟩ := ho i List.mem_cons_self
    have hc := closeEntry_of_open he heo
    have hkept : ∀ j : Fin 8, j ≠ i → (closeEntry s i).mb[j] = s.mb[j] := fun j hj => by rw [hc]; exact mb_set_other _ hj.symm _
    obtain ⟨hq, hb⟩ := ih (s := closeEntry s i) hl fun j hj => by
      rw [hkept j (fun h => hi (h ▸ hj))]
      exact ho j (List.mem_cons_of_mem i hj)
    refine ⟨?_, fun j => ?_⟩
    · change (closeEntries (closeEntry s i) l).mq = _
      rw [hq, hc]
      simp
    · change (closeEntries (closeEntry s i) l).mb[j] = _
      rw [hb j]
      by_cases hj : j = i
      · subst hj
        simp [hi, hc, he, Entry.close]
      · simp [hj, hkept j hj]

/-- The entries that pass a test which only OPEN ones pass close in opened order (R92, R97 to R99). -/
theorem closedWhere_closeEntries {s u : State} {test : Entry → Bool} {l : List (Fin 8)} (hl : l.Nodup)
    (hmem : ∀ i, i ∈ l ↔ (u.mb[i]).any test = true) (hsort : l.Pairwise fun i j => orderOf u i ≤ orderOf u j)
    (htest : ∀ e, test e = true → e.isOpen = true) (hmb : s.mb = u.mb) (hmq : s.mq = u.mq) :
    ClosedWhere test u (closeEntries s l) := by
  obtain ⟨hq, hb⟩ := closeEntries_eq (s := s) hl fun i hi => by
    obtain ⟨e, he, hte⟩ := any_eq_true_iff.mp ((hmem i).mp hi)
    exact ⟨e, by rw [hmb, he], htest e hte⟩
  refine ⟨fun i => ?_, l, by rw [hq, hmq], hl, hmem, hsort⟩
  have hi := hmem i
  rw [hb i, hmb]
  cases he : u.mb[i] with
  | none => simp
  | some e =>
    simp only [he, Option.any_some] at hi
    simp only [Option.map_some, hi, Entry.close]
    split <;> rfl

theorem closedWhere_entriesWhere (s : State) {test : Entry → Bool} (htest : ∀ e, test e = true → e.isOpen = true) :
    ClosedWhere test s (closeEntries s (entriesWhere s test)) :=
  closedWhere_closeEntries (nodup_entriesWhere s test) (fun _ => mem_entriesWhere) (inOpenedOrder_sorted s _) htest rfl rfl

/-- Every OPEN entry closes in opened order (R97 to R99). -/
theorem closeAllOpen_closedAll (s : State) : ClosedAll s (closeAllOpen s) := closedWhere_entriesWhere s fun _ => id

/-- Closing reads the entries and the queue alone, so what else differs does not matter. -/
theorem ClosedWhere.congr {test : Entry → Bool} {s t s' t' : State} (h : ClosedWhere test s t) (hs : s'.mb = s.mb) (hsq : s'.mq = s.mq)
    (ht : t'.mb = t.mb) (htq : t'.mq = t.mq) : ClosedWhere test s' t' := by
  have horder : orderOf s' = orderOf s := by funext i; simp only [orderOf, hs]
  simpa only [ClosedWhere, hs, hsq, ht, htq, horder] using h

theorem Entry.isOpen_of_isAtAnswer {e : Entry} (h : e.isAtAnswer = true) : e.isOpen = true := by
  unfold Entry.isAtAnswer at h
  unfold Entry.isOpen
  split at h <;> simp_all

/-- The completion notification closes every AT_ANSWER entry, or while RESTART is in progress every OPEN entry (R94, R99). -/
theorem completionNotification_closedWhere (s : State) :
    ClosedWhere (if s.cmu.restarting then Entry.isOpen else Entry.isAtAnswer) s (completionNotification s) := by
  unfold completionNotification
  split
  · exact closeAllOpen_closedAll s
  · exact closedWhere_entriesWhere s fun _ => Entry.isOpen_of_isAtAnswer

/-- Where no entry passes the test nothing closes. -/
theorem entriesWhere_eq_nil {s : State} {test : Entry → Bool} (h : ∀ i : Fin 8, ∀ e ∈ s.mb[i], test e = false) :
    entriesWhere s test = [] := by
  refine List.eq_nil_iff_forall_not_mem.mpr fun i hi => ?_
  obtain ⟨e, he, hte⟩ := any_eq_true_iff.mp (mem_entriesWhere.mp hi)
  exact absurd (h i e he) (by simp [hte])

end Sys2Proof.Machine
end

-- ==== Placing a pixel ====
section
/-! PROOFS. Placing a pixel (R84 to R91, R93, R94, R138): the merge into its entry, the opening of a FREE one, the wait under exhaustion, an
idle expiry, and that one OPEN entry at most holds a word whatever step is taken. -/

namespace Sys2Proof.Machine

/-! ## What keeps a property of the state through closings and placements -/

section
variable {P : State → Prop} (hP : ∀ (s : State) (i : Fin 8), P s → P (closeEntry s i))
include hP

theorem closeEntries_keep (l : List (Fin 8)) {s : State} (h : P s) : P (closeEntries s l) := by
  induction l generalizing s with
  | nil => exact h
  | cons i l ih => exact ih (hP s i h)

theorem closeAllOpen_keep {s : State} (h : P s) : P (closeAllOpen s) := closeEntries_keep hP _ h

theorem forceClose_keep {s : State} (h : P s) : P (forceClose s) := closeEntries_keep hP _ h

theorem completionNotification_keep {s : State} (h : P s) : P (completionNotification s) := by
  unfold completionNotification
  split
  · exact closeAllOpen_keep hP h
  · exact closeEntries_keep hP _ h

theorem closeForRead_keep (w : Nat) {s : State} (h : P s) : P (closeForRead s w) := by
  unfold closeForRead
  split
  · exact hP s _ h
  · exact h

theorem closeIfComplete_keep (i : Fin 8) {s : State} (h : P s) : P (closeIfComplete s i) := by
  unfold closeIfComplete
  split
  · split
    · exact hP s i h
    · exact h
  · exact h

theorem expireEntry_keep (i : Fin 8) {s : State} (h : P s) : P (expireEntry i s) := by
  unfold expireEntry
  split
  · split
    · exact hP s i h
    all_goals exact h
  · exact h

end

/-- A property kept by each of the three things that a placement does: an entry closes, an OPEN entry takes a pixel of its word, and a FREE one
opens for a word that no OPEN entry holds (R85). -/
structure KeptByPlacing (P : State → Prop) : Prop where
  close : ∀ (s : State) (i : Fin 8), P s → P (closeEntry s i)
  merge : ∀ (s : State) (i : Fin 8) (e e' : Entry), P s → s.mb[i] = some e → e.isOpen = true → e'.isOpen = true → e'.word = e.word →
    P { s with mb := s.mb.set i (some e'), ral := s.ral.placed e.word }
  openFree : ∀ (s : State) (i : Fin 8) (e : Entry), P s → s.mb[i] = none → NotOpenFor s e.word → e.isOpen = true →
    P { s with mb := s.mb.set i (some e), ral := s.ral.placed e.word }
  onePerWord : ∀ s : State, P s → OneOpenPerWord s

/-! ## The entry of a word -/

/-- One OPEN entry at most holds the word, so an OPEN entry that holds it is the one found (R84, R85). -/
theorem openEntryFor_of_open {s : State} (h : OneOpenPerWord s) {i : Fin 8} {e : Entry} {w : Nat} (he : s.mb[i] = some e)
    (ho : e.isOpen = true) (hw : e.word = w) : openEntryFor s w = some i := by
  cases hf : openEntryFor s w with
  | none => exact absurd hw (openEntryFor_eq_none.mp hf i e he ho)
  | some j =>
    obtain ⟨f, hfj, hfo, hfw⟩ := openEntryFor_eq_some hf
    rw [h i j e he f hfj ho hfo (hw.trans hfw.symm)]

/-- After the OPEN entry of a word has closed, none holds it (R84, R85). -/
theorem notOpenFor_closeEntry {s : State} (h : OneOpenPerWord s) {i : Fin 8} {e : Entry} (he : s.mb[i] = some e) (ho : e.isOpen = true) :
    NotOpenFor (closeEntry s i) e.word := by
  intro j f hf hfo hw
  rw [closeEntry_of_open he ho] at hf
  change (s.mb.set i (some e.close))[j] = some f at hf
  rw [mb_set] at hf
  split at hf
  · cases hf
    cases hfo
  · exact absurd (h i j e he f hf ho hfo hw.symm) ‹_›

theorem notOpenFor_closeForRead {s : State} (h : OneOpenPerWord s) (w : Nat) : NotOpenFor (closeForRead s w) w := by
  unfold closeForRead
  split
  · obtain ⟨e, he, ho, rfl⟩ := openEntryFor_eq_some ‹_›
    exact notOpenFor_closeEntry h he ho
  · exact openEntryFor_eq_none.mp ‹_›

/-! ## What a placement does -/

/-- An OPEN entry closes with the cause complete when it is REPLACE and holds every slot (R87). -/
theorem closeIfComplete_of_open {s : State} {i : Fin 8} {e : Entry} (he : s.mb[i] = some e) (ho : e.isOpen = true) :
    closeIfComplete s i =
      if e.op = .replace ∧ e.coverage = e.format.fullCoverage then { s with mb := s.mb.set i (some e.close), mq := s.mq ++ [.entry i] }
      else s := by
  simp only [closeIfComplete, he, closeEntry_of_open he ho]
  rfl

/-- The entry after a pixel has merged into it (R10, R86, R93). -/
def mergedEntry (s : State) (e : Entry) (p : Pixel) : Entry :=
  { e with
    state := .opened (startIdleTimer s)
    operand := withSlot e.format e.operand p.slot (e.op.combine (slotValue e.format e.operand p.slot) p.operand)
    coverage := withCovered e.coverage p.slot }

theorem mergePixel_eq (s : State) (i : Fin 8) (e : Entry) (p : Pixel) :
    mergePixel s i e p = closeIfComplete { s with mb := s.mb.set i (some (mergedEntry s e p)), ral := s.ral.placed p.word } i := rfl

theorem placePixel_of_merge {s : State} {p : Pixel} {i : Fin 8} {e : Entry} (hf : openEntryFor s p.word = some i) (he : s.mb[i] = some e)
    (hm : e.format = p.format ∧ e.op = p.op) : placePixel s p = .accepted (mergePixel s i e p) := by
  simp only [placePixel, hf, he, hm, and_self, if_true]

theorem placePixel_of_mismatch {s : State} {p : Pixel} {i : Fin 8} {e : Entry} (hf : openEntryFor s p.word = some i) (he : s.mb[i] = some e)
    (hm : ¬ (e.format = p.format ∧ e.op = p.op)) : placePixel s p = placeInFree (closeEntry s i) p := by
  simp only [placePixel, hf, he, if_neg hm]

theorem placePixel_of_notOpen {s : State} {p : Pixel} (h : NotOpenFor s p.word) : placePixel s p = placeInFree s p := by
  simp only [placePixel, openEntryFor_eq_none.mpr h]

theorem placeInFree_of_free {s : State} {p : Pixel} {i : Fin 8} (h : LowestFreeIs s i) : placeInFree s p = .accepted (openPixel s i p) := by
  simp only [placeInFree, lowestFree_eq_some.mpr h]

theorem placeInFree_of_full {s : State} {p : Pixel} (h : ∀ i : Fin 8, s.mb[i] ≠ none) : placeInFree s p = .waits (forceClose s) := by
  simp only [placeInFree, lowestFree_eq_none.mpr h]

/-- The three things that a placement does carry a property of the state through it. -/
theorem KeptByPlacing.placeInFree {P : State → Prop} (hP : KeptByPlacing P) {s : State} {p : Pixel} (h : P s) (hw : NotOpenFor s p.word) :
    P (placeInFree s p).state := by
  unfold Machine.placeInFree
  split
  · refine closeIfComplete_keep hP.close _ ?_
    exact hP.openFree s _ (openedEntry s p) h (lowestFree_eq_some.mp ‹_›).1 hw rfl
  · exact forceClose_keep hP.close h

theorem KeptByPlacing.placePixel {P : State → Prop} (hP : KeptByPlacing P) {s : State} {p : Pixel} (h : P s) : P (placePixel s p).state := by
  cases hf : openEntryFor s p.word with
  | none =>
    have hw := openEntryFor_eq_none.mp hf
    rw [placePixel_of_notOpen hw]
    exact hP.placeInFree h hw
  | some i =>
    obtain ⟨e, he, ho, hw⟩ := openEntryFor_eq_some hf
    by_cases hm : e.format = p.format ∧ e.op = p.op
    · rw [placePixel_of_merge hf he hm, Placement.state, mergePixel_eq, ← hw]
      exact closeIfComplete_keep hP.close i (hP.merge s i e (mergedEntry s e p) h he ho rfl rfl)
    · rw [placePixel_of_mismatch hf he hm]
      refine hP.placeInFree (hP.close s i h) ?_
      rw [← hw]
      exact notOpenFor_closeEntry (hP.onePerWord s h) he ho

theorem KeptByPlacing.placeList {P : State → Prop} (hP : KeptByPlacing P) (l : List ListEntry) {s : State} (h : P s) :
    P (placeList s l).1 := by
  induction l generalizing s with
  | nil => exact h
  | cons x l ih =>
    cases x with
    | tail lane => exact ih h
    | pixel p =>
      have hp := hP.placePixel (p := p) h
      unfold Machine.placeList
      split
      all_goals
        rename_i u hu
        rw [hu, Placement.state] at hp
      · exact ih hp
      · exact hp

/-! ## The statements about one pixel -/

/-- A pixel's operand is the value it carries (R57). -/
theorem Pixel.operand_of_value {p : Pixel} {v : Word} (h : p.value = some v) : p.operand = v := by simp [Pixel.operand, h]

/-- Settles O29: the OPEN entry found is the pixel's, and it closes if it is then complete. -/
theorem pixelMergesIntoItsEntry : Obligations.PixelMergesIntoItsEntry := by
  intro s p v i e hone hv he ho hw hf hop timer merged
  have hmerged : mergedEntry s e p = merged := by
    rw [mergedEntry, Pixel.operand_of_value hv]
    rfl
  rw [placePixel_of_merge (openEntryFor_of_open hone he ho hw) he ⟨hf, hop⟩, mergePixel_eq,
    closeIfComplete_of_open (mb_set_same ..) rfl, hmerged, Ral.placed_eq_reported, Vector.set_set]
  rfl

/-- Every entry was opened before the next order (R89). -/
theorem order_lt_nextOrder {s : State} {i : Fin 8} {e : Entry} (he : s.mb[i] = some e) : e.order < nextOrder s := by
  have hmax (l : List (Fin 8)) : ∀ m, m ≤ l.foldl (fun m i => max m (orderOf s i)) m
      ∧ ∀ j ∈ l, orderOf s j ≤ l.foldl (fun m i => max m (orderOf s i)) m := by
    induction l with
    | nil => simp
    | cons k l ih =>
      intro m
      obtain ⟨hm, hl⟩ := ih (max m (orderOf s k))
      refine ⟨(Nat.le_max_left ..).trans hm, fun j hj => ?_⟩
      obtain rfl | hj := List.mem_cons.mp hj
      · exact (Nat.le_max_right ..).trans hm
      · exact hl j hj
  have hi : orderOf s i = e.order := by simp only [orderOf, he]
  have := (hmax allEight 0).2 i (mem_allEight i)
  unfold nextOrder
  omega

/-- What opening an entry does (R89, R138). -/
theorem openPixel_eq (s : State) (i : Fin 8) (p : Pixel) :
    openPixel s i p =
      if p.op = .replace ∧ withCovered 0 p.slot = p.format.fullCoverage then
        { s with mb := s.mb.set i (some (openedEntry s p).close), mq := s.mq ++ [.entry i], ral := s.ral.placed p.word }
      else { s with mb := s.mb.set i (some (openedEntry s p)), ral := s.ral.placed p.word } := by
  rw [openPixel, closeIfComplete_of_open (mb_set_same ..) rfl, Vector.set_set]
  rfl

/-- With no entry FREE and none OPEN nothing is forced to close (R90). -/
theorem forceClose_of_none_open {s : State} (h : ∀ i : Fin 8, ∀ e ∈ s.mb[i], e.isOpen = false) : forceClose s = s := by
  rw [forceClose, entriesWhere_eq_nil h]
  rfl

/-- The entry that exhaustion closes is OPEN, and none OPEN is older (R90). -/
theorem forceClose_of_open {s : State} (h : ∃ i : Fin 8, (s.mb[i]).any Entry.isOpen = true) :
    ∃ (i : Fin 8) (e : Entry), s.mb[i] = some e ∧ e.isOpen = true ∧ (∀ j : Fin 8, ∀ f ∈ s.mb[j], f.isOpen = true → e.order ≤ f.order)
      ∧ forceClose s = closeEntry s i := by
  obtain ⟨k, hk⟩ := h
  cases hl : entriesWhere s Entry.isOpen with
  | nil => exact absurd (mem_entriesWhere.mpr hk) (by simp [hl])
  | cons i l =>
    have hsort : (i :: l).Pairwise fun i j => orderOf s i ≤ orderOf s j := hl ▸ inOpenedOrder_sorted s _
    obtain ⟨e, he, ho⟩ := any_eq_true_iff.mp (mem_entriesWhere.mp (show i ∈ entriesWhere s Entry.isOpen by simp [hl]))
    refine ⟨i, e, he, ho, fun j f hf hfo => ?_, by rw [forceClose, hl]; rfl⟩
    have hj : j ∈ i :: l := hl ▸ mem_entriesWhere.mpr (any_eq_true_iff.mpr ⟨f, hf, hfo⟩)
    have hle : orderOf s i ≤ orderOf s j := by
      obtain rfl | hj := List.mem_cons.mp hj
      · exact Nat.le_refl _
      · exact (List.pairwise_cons.mp hsort).1 j hj
    rw [Option.mem_def] at hf
    simpa only [orderOf, he, hf] using hle

/-- Settles O30: with no OPEN entry for the word the lowest FREE one opens, a mismatched one closes first, and without a FREE one the pixel waits
while the oldest OPEN entry closes. -/
theorem pixelOpensAnEntryOrWaits : Obligations.PixelOpensAnEntryOrWaits := by
  intro s p v hone hv timer complete
  refine ⟨fun k hw hk => ?opens, fun i e he ho hw hm => ?mismatch, fun hw hfull => ⟨fun hnone => ?waits, fun hopen => ?forced⟩⟩
  case opens =>
    refine ⟨nextOrder s, openPixel s k p, fun j e he => order_lt_nextOrder he, ?_, ?_⟩
    · rw [placePixel_of_notOpen hw, placeInFree_of_free hk]
    · have hopened : openedEntry s p =
          ⟨.opened timer, p.word, p.format, p.op, withSlot p.format 0 p.slot v, withCovered 0 p.slot, nextOrder s, p.origin⟩ := by
        rw [openedEntry, Pixel.operand_of_value hv]
        rfl
      rw [openPixel_eq, hopened, Ral.placed_eq_reported]
      by_cases hc : p.op = .replace ∧ withCovered 0 p.slot = p.format.fullCoverage
      · rw [if_pos hc, if_pos (show complete from hc), if_pos (show complete from hc)]
        exact ⟨rfl, rfl, rfl⟩
      · rw [if_neg hc, if_neg (show ¬ complete from hc), if_neg (show ¬ complete from hc), List.append_nil]
        exact ⟨rfl, rfl, rfl⟩
  case mismatch =>
    have hm : ¬ (e.format = p.format ∧ e.op = p.op) := by
      rw [not_and_or]
      exact hm
    have hnot := notOpenFor_closeEntry hone he ho
    rw [hw] at hnot
    rw [← closeEntry_of_open he ho, placePixel_of_mismatch (openEntryFor_of_open hone he ho hw) he hm, placePixel_of_notOpen hnot]
  case waits => rw [placePixel_of_notOpen hw, placeInFree_of_full hfull, forceClose_of_none_open hnone]
  case forced =>
    obtain ⟨i, e, he, ho, hold, hc⟩ := forceClose_of_open hopen
    exact ⟨i, e, he, ho, hold, by rw [placePixel_of_notOpen hw, placeInFree_of_full hfull, hc, closeEntry_of_open he ho]⟩

/-! ## An idle expiry -/

/-- Settles O37: the row is the expiry of the entry, which closes it exactly when its timer counts. -/
theorem idleExpiryClosesTheEntry : Obligations.IdleExpiryClosesTheEntry := by
  intro s i hq
  have hrow : exec (.idleExpiry i.val) s = .next (expireEntry i s) := by
    change Host.Outcome.next _ = _
    rw [running_of_quiet hq, dif_pos i.isLt]
  refine ⟨fun e n he hst => ?_, fun hnot => ?_⟩ <;> rw [hrow]
  · have ho : e.isOpen = true := by simp [Entry.isOpen, hst]
    simp only [expireEntry, he, hst, closeEntry_of_open he ho]
  · unfold expireEntry
    split
    · split
      · exact absurd ‹_› (hnot _ ‹_› _)
      all_goals rfl
    · rfl

end Sys2Proof.Machine
end

-- ==== One OPEN entry for each word ====
section
/-! PROOFS. At most one OPEN entry holds any given word (R84): an event leaves no more OPEN entries for a word than it found, but for a pixel that
opens a FREE entry, which it does only where no OPEN entry holds its word. -/

namespace Sys2Proof.Machine

/-- Every OPEN entry after was OPEN for its word before. -/
abbrev NoNewOpen (s t : State) : Prop :=
  ∀ i : Fin 8, ∀ f ∈ t.mb[i], f.isOpen = true → ∃ e ∈ s.mb[i], e.isOpen = true ∧ e.word = f.word

theorem NoNewOpen.onePerWord {s t : State} (h : NoNewOpen s t) (hs : OneOpenPerWord s) : OneOpenPerWord t := by
  intro i j e he f hf heo hfo hw
  obtain ⟨e', he', heo', hew⟩ := h i e he heo
  obtain ⟨f', hf', hfo', hfw⟩ := h j f hf hfo
  exact hs i j e' he' f' hf' heo' hfo' (by rw [hew, hfw, hw])

theorem NoNewOpen.of_eq {s t : State} (h : t.mb = s.mb) : NoNewOpen s t := fun i f hf ho => ⟨f, by rwa [h] at hf, ho, rfl⟩

/-- One entry is written: it is no more OPEN than it was, or not for another word. -/
theorem noNewOpen_of_set {s t : State} {i : Fin 8} {x : Option Entry} (h : t.mb = s.mb.set i x)
    (hx : ∀ f ∈ x, f.isOpen = true → ∃ e ∈ s.mb[i], e.isOpen = true ∧ e.word = f.word) : NoNewOpen s t := by
  intro j f hf ho
  rw [h, mb_set] at hf
  split at hf
  · rename_i hij
    subst hij
    exact hx f hf ho
  · exact ⟨f, hf, ho, rfl⟩

theorem closeEntry_noNewOpen (s : State) (i : Fin 8) : NoNewOpen s (closeEntry s i) := by
  by_cases h : ∃ e, s.mb[i] = some e ∧ e.isOpen = true
  · obtain ⟨e, he, ho⟩ := h
    rw [closeEntry_of_open he ho]
    exact noNewOpen_of_set (i := i) rfl fun f hf hfo => by cases hf; cases hfo
  · rw [closeEntry_of_not_open fun e he => Bool.eq_false_of_not_eq_true fun ho => h ⟨e, he, ho⟩]
    exact .of_eq rfl

theorem closeEntry_onePerWord (s : State) (i : Fin 8) (h : OneOpenPerWord s) : OneOpenPerWord (closeEntry s i) :=
  (closeEntry_noNewOpen s i).onePerWord h

/-- A FREE entry opens for a word that no OPEN entry holds (R84, R89). -/
theorem onePerWord_of_open {s t : State} {i : Fin 8} {e : Entry} (h : t.mb = s.mb.set i (some e)) (hw : NotOpenFor s e.word)
    (hs : OneOpenPerWord s) : OneOpenPerWord t := by
  intro j k f hf g hg hfo hgo hfg
  rw [h, mb_set] at hf hg
  by_cases hj : i = j <;> by_cases hk : i = k
  · exact hj.symm.trans hk
  · rw [if_pos hj] at hf
    rw [if_neg hk] at hg
    cases hf
    exact absurd hfg.symm (hw k g hg hgo)
  · rw [if_neg hj] at hf
    rw [if_pos hk] at hg
    cases hg
    exact absurd hfg (hw j f hf hfo)
  · rw [if_neg hj] at hf
    rw [if_neg hk] at hg
    exact hs j k f hf g hg hfo hgo hfg

theorem onePerWord_keptByPlacing : KeptByPlacing OneOpenPerWord where
  close := closeEntry_onePerWord
  merge s i e e' h he ho _ hw := by
    refine (noNewOpen_of_set (i := i) (x := some e') rfl fun f hf _ => ?_).onePerWord h
    cases hf
    exact ⟨e, he, ho, hw.symm⟩
  openFree _ _ _ h _ hw _ := onePerWord_of_open rfl hw h
  onePerWord _ h := h

/-! ## Host accesses -/

theorem continueWrite_onePerWord {s : State} (a : AccessRecord) (h : OneOpenPerWord s) : OneOpenPerWord (continueWrite s a) := by
  have hp := onePerWord_keptByPlacing.placeList (a.list.drop a.next) h
  dsimp only [continueWrite]
  split
  · exact completionNotification_keep closeEntry_onePerWord hp
  · exact hp

theorem takeWaitingPlacement_onePerWord {s : State} (h : OneOpenPerWord s) : OneOpenPerWord (takeWaitingPlacement s) := by
  unfold takeWaitingPlacement
  split
  · split
    · exact continueWrite_onePerWord _ h
    · exact h
  · exact h

theorem streamReadNotification_onePerWord {s : State} (n : Fin 8) (r : Region) (h : OneOpenPerWord s) :
    OneOpenPerWord (streamReadNotification s n r) := by
  dsimp only [streamReadNotification]
  split
  · split
    · exact h
    · exact closeForRead_keep (s := { s with ral := { s.ral with latch := none } }) closeEntry_onePerWord _ h
  · exact h

theorem answerRead_onePerWord {s : State} (h : OneOpenPerWord s) : OneOpenPerWord (answerRead s) := by
  unfold answerRead finishRead
  split
  · split
    · dsimp only
      split
      · split
        · split
          · exact streamReadNotification_onePerWord _ _ h
          · exact h
        · exact h
      · exact h
    · exact h
  · exact h

theorem resolveWords_onePerWord (o : Origin) (ws : List Nat) {s : State} (k : Nat) (h : OneOpenPerWord s) :
    OneOpenPerWord (resolveWords s o k ws).1 := by
  induction ws generalizing s k with
  | nil => exact h
  | cons w ws ih =>
    have step := ih (s := appendItem (closeForRead s w) (.gather w k o)) (k + 1) (closeForRead_keep closeEntry_onePerWord w h)
    unfold resolveWords
    split
    · split
      · exact ih (k + 1) h
      · exact step
    · exact step

theorem startAccess_onePerWord {s : State} (a : AccessRecord) (o : Origin) (f : Format) (h : OneOpenPerWord s) :
    OneOpenPerWord (startAccess s a o f) := by
  unfold startAccess
  split
  · split
    · exact h
    · exact continueWrite_onePerWord (s := { s with hpc := { s.hpc with state := .placing, access := some a } }) a h
  · exact answerRead_onePerWord (resolveWords_onePerWord (s := { s with hpc := { s.hpc with state := .gathering, access := some a } }) o _ 0 h)

theorem claimRegion_onePerWord {s : State} (l : HostLines) (n : Fin 8) (h : OneOpenPerWord s) : OneOpenPerWord (claimRegion s l n) := by
  dsimp only [claimRegion]
  split
  · exact h
  · split
    · exact h
    · split
      · exact startAccess_onePerWord _ _ _ h
      · exact startAccess_onePerWord (s := { s with rt := _ }) _ _ _ h

theorem takeRequest_onePerWord {s : State} (h : OneOpenPerWord s) : OneOpenPerWord (takeRequest s) := by
  dsimp only [takeRequest]
  split
  · exact h
  · split
    · exact h
    · exact claimRegion_onePerWord _ _ h
    · exact startAccess_onePerWord _ _ _ h

/-! ## The steps -/

theorem beginHead_noNewOpen (s : State) : NoNewOpen s (beginHead s) := by
  obtain h | ⟨i, rest, e, -, -, h | h⟩ | ⟨x, w, rest, -, -, h⟩ := beginHead_cases s <;> rw [h]
  · exact .of_eq rfl
  · exact noNewOpen_of_set (i := i) rfl fun f hf ho => by cases hf; cases ho
  · exact noNewOpen_of_set (i := i) rfl fun f hf ho => by cases hf; cases ho
  · exact .of_eq rfl

theorem beginItemEvent_noNewOpen (s : State) : NoNewOpen s (beginItemEvent s) := by
  obtain h | ⟨-, h⟩ := beginItemEvent_cases s <;> rw [h]
  · exact .of_eq rfl
  · exact beginHead_noNewOpen s

theorem writeCompletes_noNewOpen (s : State) (o : Operation) : NoNewOpen s (writeCompletes s o) := by
  unfold writeCompletes endEntryItem
  split
  · exact noNewOpen_of_set (x := none) rfl nofun
  all_goals exact .of_eq rfl

theorem failEntryItem_noNewOpen (s : State) (i : Fin 8) (k : FaultKind) : NoNewOpen s (failEntryItem s i k) := by
  unfold failEntryItem
  split
  · exact noNewOpen_of_set (x := none) rfl nofun
  · exact .of_eq rfl

theorem failReadItem_mb (s : State) (k : FaultKind) (x : Item) : (failReadItem s k x).mb = s.mb := by rw [failReadItem_frame]

theorem timeoutItem_noNewOpen (s : State) (o : Operation) : NoNewOpen s (timeoutItem s o) := by
  unfold timeoutItem
  split
  · split
    · exact failEntryItem_noNewOpen _ _ _
    all_goals exact .of_eq (failReadItem_mb ..)
  · exact .of_eq rfl

theorem readyTimeoutEvent_noNewOpen (s : State) : NoNewOpen s (readyTimeoutEvent s) := by
  obtain h | ⟨o, -, -, h⟩ := readyTimeoutEvent_cases s <;> rw [h]
  · exact .of_eq rfl
  · exact timeoutItem_noNewOpen s o

theorem stuckDropEvent_noNewOpen (s : State) : NoNewOpen s (stuckDropEvent s) := by
  obtain h | ⟨-, h⟩ := stuckDropEvent_cases s <;> rw [h]
  · exact .of_eq rfl
  · unfold dropHead
    split
    · exact failEntryItem_noNewOpen _ _ _
    · exact .of_eq (failReadItem_mb ..)
    · exact .of_eq (failReadItem_mb ..)
    · exact .of_eq rfl

theorem mholdFalls_noNewOpen (mrdy : Bool) (s : State) : NoNewOpen s (mholdFalls mrdy s) := by
  obtain ⟨-, h⟩ | ⟨p, -, h⟩ | ⟨p, -, h⟩ := mholdFalls_cases mrdy s <;> rw [h]
  · exact .of_eq rfl
  · exact beginItemEvent_noNewOpen { s with inp := { s.inp with mhold := false }, hld := ⟨.none, none⟩ }
  · exact .of_eq rfl

theorem strobeWriteCompleteEvent_noNewOpen (s : State) : NoNewOpen s (strobeWriteCompleteEvent s) := by
  obtain h | ⟨o, -, -, -, -, h⟩ := strobeWriteCompleteEvent_cases s <;> rw [h]
  · exact .of_eq rfl
  · exact writeCompletes_noNewOpen s o

theorem rmwWriteCompleteEvent_noNewOpen (s : State) : NoNewOpen s (rmwWriteCompleteEvent s) := by
  obtain h | ⟨o, v, -, -, -, -, h⟩ := rmwWriteCompleteEvent_cases s <;> rw [h]
  · exact .of_eq rfl
  · exact writeCompletes_noNewOpen s o

theorem rmwReadCompleteEvent_noNewOpen (md : Word) (s : State) : NoNewOpen s (rmwReadCompleteEvent md s) := by
  obtain h | ⟨o, v, i, e, -, -, -, -, -, -, h⟩ := rmwReadCompleteEvent_cases md s <;> rw [h]
  · exact .of_eq rfl
  · exact noNewOpen_of_set (i := i) rfl fun f hf ho => by cases hf; cases ho

theorem holdRequestEvent_onePerWord {s : State} (h : OneOpenPerWord s) : OneOpenPerWord (holdRequestEvent s) := by
  obtain he | ⟨-, he⟩ := holdRequestEvent_cases s <;> rw [he]
  · exact h
  · unfold takeHoldRequest
    split
    · exact h
    · exact closeAllOpen_keep closeEntry_onePerWord h

theorem CommandEffect.onePerWord {s t : State} (he : CommandEffect s t) (h : OneOpenPerWord s) : OneOpenPerWord t := by
  cases he with
  | none | region | timing | memory => exact h
  | flush | restart => exact closeAllOpen_keep closeEntry_onePerWord h

@[simp] theorem Entry.countDown_isOpen (e : Entry) : e.countDown.isOpen = e.isOpen := by
  unfold Entry.countDown
  split <;> simp [Entry.isOpen, *]

@[simp] theorem Entry.countDown_word (e : Entry) : e.countDown.word = e.word := by
  unfold Entry.countDown
  split <;> rfl

theorem countDownEntry_noNewOpen (s : State) (i : Fin 8) : NoNewOpen s (countDownEntry s i) := by
  refine noNewOpen_of_set (i := i) rfl fun f hf ho => ?_
  obtain ⟨e, he, rfl⟩ := Option.map_eq_some_iff.mp hf
  exact ⟨e, he, by simpa using ho, by simp⟩

theorem countDownEntries_onePerWord (l : List (Fin 8)) {s : State} (h : OneOpenPerWord s) : OneOpenPerWord (l.foldl countDownEntry s) := by
  induction l generalizing s with
  | nil => exact h
  | cons i l ih => exact ih ((countDownEntry_noNewOpen s i).onePerWord h)

theorem tickIdleTimers_onePerWord {s : State} (h : OneOpenPerWord s) : OneOpenPerWord (tickIdleTimers s) :=
  closeEntries_keep closeEntry_onePerWord _ (countDownEntries_onePerWord allEight h)

/-- Every event keeps one OPEN entry at most for a word. -/
theorem Event.onePerWord {s t : State} (h : Event s t) (hs : OneOpenPerWord s) : OneOpenPerWord t := by
  cases h with
  | placementTaken => exact takeWaitingPlacement_onePerWord hs
  | readAnswered => exact answerRead_onePerWord hs
  | restartEnded =>
    unfold endRestart
    split
    · split
      · exact takeRequest_onePerWord (s := restartReset s) hs
      · exact hs
    · exact hs
  | requestSeen =>
    unfold seeRequest
    split
    · exact hs
    · exact takeRequest_onePerWord hs
  | idleExpired i => exact expireEntry_keep closeEntry_onePerWord i hs
  | itemBegun => exact (beginItemEvent_noNewOpen s).onePerWord hs
  | strobeWritten => exact (strobeWriteCompleteEvent_noNewOpen s).onePerWord hs
  | rmwRead md => exact (rmwReadCompleteEvent_noNewOpen md s).onePerWord hs
  | rmwWritten => exact (rmwWriteCompleteEvent_noNewOpen s).onePerWord hs
  | readyTimedOut => exact (readyTimeoutEvent_noNewOpen s).onePerWord hs
  | headDropped => exact (stuckDropEvent_noNewOpen s).onePerWord hs
  | mholdRose => exact holdRequestEvent_onePerWord hs
  | mholdFell mrdy => exact (mholdFalls_noNewOpen mrdy s).onePerWord hs
  | commandTaken u k params resp rep h =>
    refine (NoNewOpen.of_eq ?_).onePerWord ((outcome_taken h).onePerWord hs)
    rw [commandTaken_frame h]
  | idleTimersTicked => exact tickIdleTimers_onePerWord hs
  | flushDoneSet => rw [setFlushDone_frame]; exact hs
  | granted => rw [takeGrant_frame]; exact hs
  | hreqFell => rw [hreqLowEvent_frame]; exact hs
  | wordRead md => rw [readCompleteEvent_frame]; exact hs
  | mrdyReleased => rw [mrdyReleaseEvent_frame]; exact hs
  | timedOutAgain => rw [secondExpiryEvent_frame]; exact hs
  | recovered => rw [recoverEndEvent_frame]; exact hs
  | readyUnasked => rw [unsolicitedReadyEvent_frame]; exact hs
  | stuckEnded => rw [stuckEndEvent_frame]; exact hs
  | frameBegun => rw [frameStartEvent_frame]; exact hs
  | bitShifted ldi => rw [shiftEdge_frame]; exact hs
  | requestDriven | answerEnded | frameEnded | lclkRose | commandRefused | lclkFell | readyTimerCounted => exact hs

/-- Settles O11: every event of a running part keeps it, and RSTN frees every entry. -/
theorem everyStepKeepsOneOpenEntryPerWord : Obligations.EveryStepKeepsOneOpenEntryPerWord := by
  intro s hs t ht
  obtain ⟨-, hev⟩ | rfl | ⟨-, ⟨p, rfl, -⟩ | ⟨mrdy, rfl⟩ | ⟨level, rfl⟩⟩ := step_cases ht
  · exact hev.keep (P := OneOpenPerWord) Event.onePerWord hs
  · intro i j e he
    simp [assertReset] at he
  all_goals exact hs

end Sys2Proof.Machine
end

-- ==== The sequencer and the head item ====
section
/-! PROOFS. What it means that the sequencer agrees with the queue and the entries (R113 to R118): it rests, it works on the head item's entry or
on the head READ item, or it waits for the release; and which changes of the entries and the queue leave that as it is. -/

namespace Sys2Proof.Machine

/-! ## The four cases -/

theorem activeAs_iff {s : State} {o : Operation} {p : Phase} :
    activeAs s o p = true ↔
      ∃ (i : Fin 8) (e : Entry), o.item = .entry i ∧ s.mq.head? = some (.entry i) ∧ s.mb[i] = some e ∧ e.state = .active p
        ∧ e.word = o.word ∧ ∀ j : Fin 8, j ≠ i → isActive s.mb[j] = false := by
  unfold activeAs
  constructor
  · intro h
    split at h
    · rename_i i hi
      cases he : s.mb[i] with
      | none => simp [he] at h
      | some e =>
        simp only [he, Bool.and_eq_true, decide_eq_true_eq] at h
        obtain ⟨⟨hhead, hst, hw⟩, ho⟩ := h
        exact ⟨i, e, hi, hhead, he, hst, hw, ho⟩
    all_goals cases h
  · rintro ⟨i, e, hi, hhead, he, hst, hw, ho⟩
    simp [hi, hhead, he, hst, hw]
    exact ho

theorem readingHead_iff {s : State} {o : Operation} :
    readingHead s o = true ↔ s.mq.head? = some o.item ∧ NoneActive s ∧ o.item.reads o.word := by
  unfold readingHead Item.reads
  simp only [Bool.and_eq_true, decide_eq_true_eq, and_assoc]
  refine and_congr_right fun _ => and_congr_right fun _ => ?_
  split <;> simp_all

/-- The phase in which an entry is ACTIVE for an operation of this kind, in this MSQ state and step (R116, R117). -/
inductive InPhase : MsqState → OpKind → OpStep → Phase → Prop
  | strobe : InPhase .writing .strobeWrite .ready .strobeWrite
  | reading : InPhase .reading (.rmw none) .ready .rmwRead
  | formed (v : Word) : InPhase .reading (.rmw (some v)) .release .rmwWrite
  | writing (v : Word) : InPhase .writing (.rmw (some v)) .ready .rmwWrite

/-- The operation's item has been ended, and its release step is under way (R115 to R118). -/
inductive Ended : MsqState → OpKind → Prop
  | strobe : Ended .writing .strobeWrite
  | rmw (v : Word) : Ended .writing (.rmw (some v))
  | read : Ended .reading .read

theorem inPhase_iff {st : MsqState} {k : OpKind} {step : OpStep} {p : Phase} :
    InPhase st k step p ↔
      (st = .writing ∧ k = .strobeWrite ∧ step = .ready ∧ p = .strobeWrite)
        ∨ (st = .reading ∧ k = .rmw none ∧ step = .ready ∧ p = .rmwRead)
        ∨ (∃ v, st = .reading ∧ k = .rmw (some v) ∧ step = .release ∧ p = .rmwWrite)
        ∨ (∃ v, st = .writing ∧ k = .rmw (some v) ∧ step = .ready ∧ p = .rmwWrite) := by
  constructor
  · rintro (_ | _ | v | v) <;> simp
  · rintro (⟨rfl, rfl, rfl, rfl⟩ | ⟨rfl, rfl, rfl, rfl⟩ | ⟨v, rfl, rfl, rfl, rfl⟩ | ⟨v, rfl, rfl, rfl, rfl⟩)
    · exact .strobe
    · exact .reading
    · exact .formed v
    · exact .writing v

theorem ended_iff {st : MsqState} {k : OpKind} :
    Ended st k ↔ (st = .writing ∧ k = .strobeWrite) ∨ (∃ v, st = .writing ∧ k = .rmw (some v)) ∨ (st = .reading ∧ k = .read) := by
  constructor
  · rintro (_ | v | _) <;> simp
  · rintro (⟨rfl, rfl⟩ | ⟨v, rfl, rfl⟩ | ⟨rfl, rfl⟩)
    · exact .strobe
    · exact .rmw v
    · exact .read

/-- The four cases of a sequencer that agrees with the queue and the entries (R113 to R118). -/
inductive Sequencing (s : State) : Prop
  | resting (op : s.msq.op = none) (notReading : s.msq.state ≠ .reading) (notWriting : s.msq.state ≠ .writing) (none : NoneActive s)
      (mcs : s.mcs = false)
  | onEntry (o : Operation) (i : Fin 8) (e : Entry) (p : Phase) (op : s.msq.op = some o) (item : o.item = .entry i)
      (head : s.mq.head? = some (.entry i)) (entry : s.mb[i] = some e) (active : e.state = .active p) (word : e.word = o.word)
      (others : ∀ j : Fin 8, j ≠ i → isActive s.mb[j] = false) (phase : InPhase s.msq.state o.kind o.step p)
      (mcs : s.mcs = decide (o.step = .ready))
  | onRead (o : Operation) (op : s.msq.op = some o) (head : s.mq.head? = some o.item) (reads : o.item.reads o.word) (none : NoneActive s)
      (state : s.msq.state = .reading) (kind : o.kind = .read) (step : o.step = .ready) (mcs : s.mcs = true)
  | releasing (o : Operation) (op : s.msq.op = some o) (step : o.step = .release) (none : NoneActive s)
      (ended : Ended s.msq.state o.kind) (mcs : s.mcs = false)

theorem operationOk_iff {s : State} {o : Operation} :
    operationOk s o = true ↔
      (∃ p, InPhase s.msq.state o.kind o.step p ∧ activeAs s o p = true)
        ∨ (s.msq.state = .reading ∧ o.kind = .read ∧ o.step = .ready ∧ readingHead s o = true)
        ∨ (Ended s.msq.state o.kind ∧ o.step = .release ∧ NoneActive s) := by
  unfold operationOk
  constructor
  · intro h
    cases hst : s.msq.state <;> rcases hk : o.kind with _ | (_ | v) | _ <;> cases hstep : o.step <;>
      simp only [hst, hk, hstep, Bool.false_eq_true] at h
    · exact .inl ⟨_, .reading, h⟩
    · exact .inl ⟨_, .formed _, h⟩
    · exact .inr (.inl ⟨rfl, rfl, rfl, h⟩)
    · exact .inr (.inr ⟨.read, rfl, of_decide_eq_true h⟩)
    · exact .inl ⟨_, .strobe, h⟩
    · exact .inr (.inr ⟨.strobe, rfl, of_decide_eq_true h⟩)
    · exact .inl ⟨_, .writing _, h⟩
    · exact .inr (.inr ⟨.rmw _, rfl, of_decide_eq_true h⟩)
  · rintro (⟨p, hp, h⟩ | ⟨hst, hk, hstep, h⟩ | ⟨he, hstep, h⟩)
    · obtain ⟨hst, hk, hstep, rfl⟩ | ⟨hst, hk, hstep, rfl⟩ | ⟨v, hst, hk, hstep, rfl⟩ | ⟨v, hst, hk, hstep, rfl⟩ := inPhase_iff.mp hp <;>
        simpa only [hst, hk, hstep] using h
    · simpa only [hst, hk, hstep] using h
    · obtain ⟨hst, hk⟩ | ⟨v, hst, hk⟩ | ⟨hst, hk⟩ := ended_iff.mp he <;> simpa only [hst, hk, hstep] using decide_eq_true h

theorem sequencerOk_iff {s : State} : sequencerOk s = true ↔ Sequencing s := by
  unfold sequencerOk
  constructor
  · intro h
    split at h
    · rename_i o hop
      rw [Bool.and_eq_true, beq_iff_eq] at h
      obtain ⟨ho, hm⟩ := h
      obtain ⟨p, hp, ha⟩ | ⟨hst, hk, hstep, hr⟩ | ⟨he, hstep, hn⟩ := operationOk_iff.mp ho
      · obtain ⟨i, e, hi, hh, hie, hact, hw, hoth⟩ := activeAs_iff.mp ha
        exact .onEntry o i e p hop hi hh hie hact hw hoth hp hm
      · obtain ⟨hh, hn, hrd⟩ := readingHead_iff.mp hr
        exact .onRead o hop hh hrd hn hst hk hstep (by simp [hm, hstep])
      · exact .releasing o hop hstep hn he (by simp [hm, hstep])
    · rename_i hop
      simp only [Bool.and_eq_true, decide_eq_true_eq, Bool.not_eq_true'] at h
      obtain ⟨⟨⟨h1, h2⟩, h3⟩, h4⟩ := h
      exact .resting hop h1 h2 h3 h4
  · intro h
    cases h with
    | resting op h1 h2 h3 h4 => simp [op, h1, h2, h4]; exact h3
    | onEntry o i e p op item head entry active word others phase mcs =>
      simp only [op, mcs, beq_self_eq_true, Bool.and_true]
      exact operationOk_iff.mpr (.inl ⟨p, phase, activeAs_iff.mpr ⟨i, e, item, head, entry, active, word, others⟩⟩)
    | onRead o op head reads none state kind step mcs =>
      simp only [op, mcs, step, decide_true, beq_self_eq_true, Bool.and_true]
      exact operationOk_iff.mpr (.inr (.inl ⟨state, kind, step, readingHead_iff.mpr ⟨head, none, reads⟩⟩))
    | releasing o op step none ended mcs =>
      simp only [op, mcs, step, reduceCtorEq, decide_false, beq_self_eq_true, Bool.and_true]
      exact operationOk_iff.mpr (.inr (.inr ⟨ended, step, none⟩))

/-! ## Changes that leave the sequencer in agreement -/

theorem isActive_of_active {e : Entry} {p : Phase} (h : e.state = .active p) : isActive (some e) = true := by
  simp [isActive, Entry.isOpen, h]

theorem isActive_of_isOpen {e : Entry} (h : e.isOpen = true) : isActive (some e) = false := by simp [isActive, h]

@[simp] theorem isActive_none : isActive none = false := rfl

@[simp] theorem isActive_close (e : Entry) : isActive (some e.close) = false := rfl

/-- No ACTIVE entry is touched and none becomes ACTIVE. -/
abbrev SameActive (s t : State) : Prop := ∀ j : Fin 8, t.mb[j] = s.mb[j] ∨ (isActive s.mb[j] = false ∧ isActive t.mb[j] = false)

theorem SameActive.none {s t : State} (h : SameActive s t) (hs : NoneActive s) : NoneActive t := fun j => by
  obtain h | h := h j
  · rw [h]
    exact hs j
  · exact h.2

theorem sameActive_of_eq {s t : State} (h : t.mb = s.mb) : SameActive s t := fun j => .inl (by rw [h])

theorem sameActive_of_set {s t : State} {i : Fin 8} {x : Option Entry} (h : t.mb = s.mb.set i x) (hs : isActive s.mb[i] = false)
    (hx : isActive x = false) : SameActive s t := fun j => by
  rw [h, mb_set]
  split
  · rename_i hij
    exact .inr ⟨hij ▸ hs, hx⟩
  · exact .inl rfl

/-- The sequencer stays in agreement while its own fields, the head item and the ACTIVE entries stay as they are. -/
theorem Sequencing.congr {s t : State} (h : Sequencing s) (hop : t.msq.op = s.msq.op) (hst : t.msq.state = s.msq.state)
    (hm : t.mcs = s.mcs) (hhead : ∀ x, s.mq.head? = some x → t.mq.head? = some x) (hact : SameActive s t) : Sequencing t := by
  cases h with
  | resting op h1 h2 none mcs => exact .resting (hop.trans op) (hst ▸ h1) (hst ▸ h2) (hact.none none) (hm.trans mcs)
  | onEntry o i e p op item head entry active word others phase mcs =>
    have hi : t.mb[i] = some e := by
      obtain h | ⟨h, -⟩ := hact i
      · rw [h, entry]
      · rw [entry, isActive_of_active active] at h
        cases h
    refine .onEntry o i e p (hop.trans op) item (hhead _ head) hi active word (fun j hj => ?_) (hst ▸ phase) (hm.trans mcs)
    obtain h | h := hact j
    · rw [h]
      exact others j hj
    · exact h.2
  | onRead o op head reads none state kind step mcs =>
    exact .onRead o (hop.trans op) (hhead _ head) reads (hact.none none) (hst.trans state) kind step (hm.trans mcs)
  | releasing o op step none ended mcs => exact .releasing o (hop.trans op) step (hact.none none) (hst ▸ ended) (hm.trans mcs)

theorem head?_append_of_some {α : Type} {l m : List α} {x : α} (h : l.head? = some x) : (l ++ m).head? = some x := by
  rw [List.head?_append, h]
  rfl

/-! ## What the sequencer does in each of its states -/

/-- Outside READING and WRITING no operation is in flight and no entry is ACTIVE (R113, R114). -/
theorem Sequencing.noneActive {s : State} (h : Sequencing s) (hr : s.msq.state ≠ .reading) (hw : s.msq.state ≠ .writing) : NoneActive s := by
  cases h with
  | resting _ _ _ none _ => exact none
  | onEntry o i e p op item head entry active word others phase mcs =>
    obtain ⟨h, -⟩ | ⟨h, -⟩ | ⟨v, h, -⟩ | ⟨v, h, -⟩ := inPhase_iff.mp phase <;> contradiction
  | onRead o op head reads none state kind step mcs => exact none
  | releasing o op step none ended mcs => exact none

end Sys2Proof.Machine
end

-- ==== The queue, the entries and the latch in agreement ====
section
/-! PROOFS. The part of `QueueOk` that is not about the gather record (R84, R108, R111, R114, R133), and what each operation on the entries, the
queue and the latch keeps of it: an entry opens, takes a pixel, closes or is freed with its item, a READ item joins the tail or leaves the head,
and the latch is invalidated. -/

namespace Sys2Proof.Machine

/-! ## The agreement -/

/-- `QueueOk` but for the gather record (R84, R108, R111, R114, R133). -/
structure CoreOk (s : State) : Prop where
  one : OneOpenPerWord s
  entries : EntriesQueued s
  prefetch : PrefetchQueued s
  seq : Sequencing s
  latch : LatchOk s
  ahead : PrefetchOk s
  marks : MarksOk s

theorem queueOk_iff {s : State} : QueueOk s ↔ CoreOk s ∧ GatherQueued s := by
  constructor
  · rintro ⟨one, entries, gather, prefetch, seq, latch, ahead, marks⟩
    exact ⟨⟨one, entries, prefetch, sequencerOk_iff.mp seq, latch, ahead, marks⟩, gather⟩
  · rintro ⟨⟨one, entries, prefetch, seq, latch, ahead, marks⟩, gather⟩
    exact ⟨one, entries, gather, prefetch, sequencerOk_iff.mpr seq, latch, ahead, marks⟩

/-- What agrees is read from the entries, the queue, the latch, the MSQ and the marks. -/
theorem CoreOk.congr {s t : State} (h : CoreOk s) (hmb : t.mb = s.mb) (hmq : t.mq = s.mq) (hral : t.ral = s.ral) (hmsq : t.msq = s.msq)
    (hf : t.cmu.flushMark = s.cmu.flushMark) (hd : t.hld.drainMark = s.hld.drainMark) : CoreOk t where
  one := by simpa only [OneOpenPerWord, hmb] using h.one
  entries := by simpa only [EntriesQueued, hmb, hmq] using h.entries
  prefetch := by
    have hp : prefetchItemOk t = prefetchItemOk s := by
      funext x
      cases x <;> simp only [prefetchItemOk, hral]
    simpa only [PrefetchQueued, hp, hmq, hral] using h.prefetch
  seq := h.seq.congr (by rw [hmsq]) (by rw [hmsq]) (by simp only [State.mcs, hmsq]) (fun x hx => by rw [hmq]; exact hx) (sameActive_of_eq hmb)
  latch := by simpa only [LatchOk, hral, hmb] using h.latch
  ahead := by simpa only [PrefetchOk, hral, hmb, hmq] using h.ahead
  marks := by simpa only [MarksOk, hf, hd, hmq] using h.marks

/-! ## Parts of the agreement -/

theorem waitsInQueue_of_open {e : Entry} (h : e.isOpen = true) : waitsInQueue (some e) = false := by simp [waitsInQueue, h]

theorem waitsInQueue_of_not_open {e : Entry} (h : e.isOpen = false) : waitsInQueue (some e) = true := by simp [waitsInQueue, h]

@[simp] theorem waitsInQueue_none : waitsInQueue none = false := rfl

/-- An entry waits in the queue exactly where its item is in it (R108). -/
theorem EntriesQueued.mem_iff {s : State} (h : EntriesQueued s) (i : Fin 8) : Item.entry i ∈ s.mq ↔ waitsInQueue s.mb[i] = true := by
  rw [← List.count_pos_iff, h i]
  cases waitsInQueue s.mb[i] <;> simp

/-- One entry is written and the queue follows it (R108). -/
theorem entriesQueued_of_set {s t : State} {i : Fin 8} {x : Option Entry} (h : EntriesQueued s) (hmb : t.mb = s.mb.set i x)
    (hi : t.mq.count (.entry i) = (waitsInQueue x).toNat) (hother : ∀ j : Fin 8, j ≠ i → t.mq.count (.entry j) = s.mq.count (.entry j)) :
    EntriesQueued t := by
  intro j
  rw [hmb, mb_set]
  split
  · rename_i hij
    rw [← hij, hi]
  · rw [hother j (Ne.symm ‹_›), h j]

/-- The head item is an entry's: that entry waits, and its item stands nowhere else (R108). -/
theorem EntriesQueued.head {s : State} {i : Fin 8} {rest : List Item} (h : EntriesQueued s) (hq : s.mq = .entry i :: rest) :
    waitsInQueue s.mb[i] = true ∧ rest.count (.entry i) = 0 := by
  have hw : waitsInQueue s.mb[i] = true := (h.mem_iff i).mp (by rw [hq]; exact List.mem_cons_self)
  have hc := h i
  rw [hq, hw, List.count_cons_self] at hc
  exact ⟨hw, by simpa using hc⟩

/-- An item further back stays ahead of the prefetch item when items join the tail. -/
theorem aheadOfPrefetch_append {q : List Item} {i : Fin 8} (l : List Item) (h : aheadOfPrefetch q i = true) :
    aheadOfPrefetch (q ++ l) i = true := by
  simp only [aheadOfPrefetch, List.contains_iff_mem] at h ⊢
  rw [List.takeWhile_append]
  split
  · exact List.mem_append_left _ ((List.takeWhile_sublist _).mem h)
  · exact h

/-- Taking away a head item that is neither the prefetch's nor this entry's leaves it ahead. -/
theorem aheadOfPrefetch_tail {x : Item} {rest : List Item} {i : Fin 8} (hx : x.isPrefetch = false) (hi : x ≠ .entry i)
    (h : aheadOfPrefetch (x :: rest) i = true) : aheadOfPrefetch rest i = true := by
  simp only [aheadOfPrefetch, List.contains_iff_mem, List.takeWhile_cons, hx, Bool.not_false, if_true, List.mem_cons] at h ⊢
  exact h.resolve_left fun he => hi he.symm

/-- With no prefetch item in it, the whole queue is ahead of the one that joins its tail. -/
theorem aheadOfPrefetch_of_mem {q : List Item} {i : Fin 8} (hq : q.countP Item.isPrefetch = 0) (hi : Item.entry i ∈ q) (x : Item) :
    aheadOfPrefetch (q ++ [x]) i = true := by
  have hall : ∀ y ∈ q, (!y.isPrefetch) = true := fun y hy => by simpa using List.countP_eq_zero.mp hq y hy
  simp only [aheadOfPrefetch, List.contains_iff_mem]
  rw [List.takeWhile_append_of_pos hall]
  exact List.mem_append_left _ hi

/-! ## The latch gives up what it holds -/

/-- The latch and the marker keep no more than they held: the latch may be invalidated and the prefetch dropped (R133, R138, R139). -/
structure Ral.Weaker (r r' : Ral) : Prop where
  latch : ∀ l ∈ r'.latch, l ∈ r.latch
  word : r'.prefetch.map Prefetch.word = r.prefetch.map Prefetch.word
  live : ∀ p ∈ r'.prefetch, p.dropped = false → p ∈ r.prefetch

theorem Ral.weaker_invalidate (r : Ral) : r.Weaker r.invalidate where
  latch := nofun
  word := by cases h : r.prefetch <;> simp [Ral.invalidate, h]
  live p hp hd := by
    obtain ⟨q, -, rfl⟩ := Option.map_eq_some_iff.mp hp
    cases hd

theorem Ral.weaker_noLatch (r : Ral) : r.Weaker { r with latch := none } where
  latch := nofun
  word := rfl
  live _ hp _ := hp

theorem Ral.weaker_placed (r : Ral) (w : Nat) : r.Weaker (r.placed w) where
  latch l hl := by
    cases h : r.latch with
    | none => simp [Ral.placed, h] at hl
    | some m =>
      by_cases hm : m.word = w <;> simp_all [Ral.placed]
  word := by
    cases h : r.prefetch with
    | none => simp [Ral.placed, h]
    | some q => by_cases hq : q.word = w <;> simp [Ral.placed, h, hq]
  live p hp hd := by
    cases h : r.prefetch with
    | none => simp [Ral.placed, h] at hp
    | some q =>
      by_cases hq : q.word = w
      · simp only [Ral.placed, h, if_pos hq, Option.mem_def, Option.some.injEq] at hp
        subst hp
        cases hd
      · simpa [Ral.placed, h, hq] using hp

/-- After the report of a word the latch does not hold it, and no prefetch of it is to be kept (R138). -/
theorem Ral.placed_latch_word {r : Ral} {w : Nat} : ∀ l ∈ (r.placed w).latch, l.word ≠ w := by
  intro l hl
  cases h : r.latch with
  | none => simp [Ral.placed, h] at hl
  | some m => by_cases hm : m.word = w <;> simp_all [Ral.placed]

theorem Ral.placed_prefetch_word {r : Ral} {w : Nat} : ∀ p ∈ (r.placed w).prefetch, p.dropped = false → p.word ≠ w := by
  intro p hp hd
  cases h : r.prefetch with
  | none => simp [Ral.placed, h] at hp
  | some q =>
    by_cases hq : q.word = w
    · simp only [Ral.placed, h, if_pos hq, Option.mem_def, Option.some.injEq] at hp
      subst hp
      cases hd
    · simp only [Ral.placed, h, if_neg hq, Option.mem_def, Option.some.injEq] at hp
      exact hp ▸ hq

theorem prefetchItemOk_of_word {s t : State} (h : t.ral.prefetch.map Prefetch.word = s.ral.prefetch.map Prefetch.word) (x : Item) :
    prefetchItemOk t x = prefetchItemOk s x := by
  cases x with
  | prefetch w o =>
    cases hs : s.ral.prefetch <;> cases ht : t.ral.prefetch <;> simp_all [prefetchItemOk]
  | entry | gather => rfl

theorem PrefetchQueued.congr {s t : State} (h : PrefetchQueued s) (hw : t.ral.prefetch.map Prefetch.word = s.ral.prefetch.map Prefetch.word)
    (hq : t.mq = s.mq) : PrefetchQueued t := by
  refine ⟨fun x hx => ?_, ?_⟩
  · rw [prefetchItemOk_of_word hw]
    exact h.1 x (hq ▸ hx)
  · have hsome : t.ral.prefetch.isSome = s.ral.prefetch.isSome := by simpa using congrArg Option.isSome hw
    rw [hq, h.2, hsome]

theorem CoreOk.weaker {s : State} (h : CoreOk s) {r : Ral} (hr : s.ral.Weaker r) : CoreOk { s with ral := r } where
  one := h.one
  entries := h.entries
  prefetch := h.prefetch.congr hr.word rfl
  seq := h.seq.congr rfl rfl rfl (fun _ => id) (sameActive_of_eq rfl)
  latch l hl := by
    obtain ⟨hnone, hword⟩ := h.latch l (hr.latch l hl)
    refine ⟨?_, hword⟩
    have := hr.word
    rw [hnone] at this
    simpa using this
  ahead p hp hd := h.ahead p (hr.live p hp hd) hd
  marks := h.marks

/-! ## Entries that open, take a pixel or close -/

/-- A FREE entry opens for a word that the latch has given up (R89, R138). -/
theorem CoreOk.open {s : State} {i : Fin 8} {e : Entry} (h : CoreOk s) (hfree : s.mb[i] = none) (hw : NotOpenFor s e.word)
    (ho : e.isOpen = true) (hl : ∀ l ∈ s.ral.latch, l.word ≠ e.word) (hp : ∀ p ∈ s.ral.prefetch, p.dropped = false → p.word ≠ e.word) :
    CoreOk { s with mb := s.mb.set i (some e) } where
  one := onePerWord_of_open rfl hw h.one
  entries := entriesQueued_of_set h.entries rfl (by rw [h.entries i, hfree, waitsInQueue_of_open ho]; rfl) fun _ _ => rfl
  prefetch := h.prefetch
  seq := h.seq.congr rfl rfl rfl (fun _ => id) (sameActive_of_set rfl (by rw [hfree]; rfl) (isActive_of_isOpen ho))
  latch l hll := by
    obtain ⟨hnone, hword⟩ := h.latch l hll
    refine ⟨hnone, fun j f hf => ?_⟩
    rw [mb_set] at hf
    split at hf
    · cases hf
      exact (hl l hll).symm
    · exact hword j f hf
  ahead p hpp hd j f hf hfw := by
    rw [mb_set] at hf
    split at hf
    · cases hf
      exact absurd hfw.symm (hp p hpp hd)
    · exact h.ahead p hpp hd j f hf hfw
  marks := h.marks

/-- OPEN entries stay OPEN for their words, and no other entry is written (R86, R93). -/
theorem CoreOk.reopen {s t : State} (h : CoreOk s)
    (hmb : ∀ i : Fin 8, t.mb[i] = s.mb[i]
      ∨ ∃ e e', s.mb[i] = some e ∧ t.mb[i] = some e' ∧ e.isOpen = true ∧ e'.isOpen = true ∧ e'.word = e.word)
    (ht : t = { s with mb := t.mb }) : CoreOk t := by
  have hword {i : Fin 8} {f : Entry} (hf : t.mb[i] = some f) : ∃ e, s.mb[i] = some e ∧ e.word = f.word ∧ e.isOpen = f.isOpen := by
    obtain hi | ⟨e, e', he, he', ho, ho', hw⟩ := hmb i
    · exact ⟨f, by rw [← hi, hf], rfl, rfl⟩
    · rw [he'] at hf
      cases hf
      exact ⟨e, he, hw.symm, by rw [ho, ho']⟩
  have hmq : t.mq = s.mq := by rw [ht]
  have hral : t.ral = s.ral := by rw [ht]
  refine ⟨?_, fun i => ?_, h.prefetch.congr (by rw [hral]) hmq, ?_, fun l hl => ?_, fun p hp hd i f hf hfw => ?_, ?_⟩
  · refine NoNewOpen.onePerWord (fun i f hf ho => ?_) h.one
    obtain ⟨e, he, hw, heo⟩ := hword hf
    exact ⟨e, he, heo.trans ho, hw⟩
  · rw [hmq, h.entries i]
    obtain hi | ⟨e, e', he, he', ho, ho', -⟩ := hmb i
    · rw [hi]
    · rw [he, he', waitsInQueue_of_open ho, waitsInQueue_of_open ho']
  · refine h.seq.congr (by rw [ht]) (by rw [ht]) (by rw [ht]; rfl) (fun x hx => by rw [hmq]; exact hx) fun i => ?_
    obtain hi | ⟨e, e', he, he', ho, ho', -⟩ := hmb i
    · exact .inl hi
    · rw [he, he']
      exact .inr ⟨isActive_of_isOpen ho, isActive_of_isOpen ho'⟩
  · obtain ⟨hnone, hlw⟩ := h.latch l (hral ▸ hl)
    refine ⟨by rw [hral, hnone], fun i f hf => ?_⟩
    obtain ⟨e, he, hw, -⟩ := hword hf
    rw [← hw]
    exact hlw i e he
  · obtain ⟨e, he, hw, heo⟩ := hword hf
    rw [hmq, ← heo]
    exact h.ahead p (hral ▸ hp) hd i e he (hw.trans hfw)
  · rw [ht]
    exact h.marks

/-- An entry closes and its item joins the tail (R92). -/
theorem closeEntry_coreOk (s : State) (i : Fin 8) (h : CoreOk s) : CoreOk (closeEntry s i) := by
  by_cases hopen : ∃ e, s.mb[i] = some e ∧ e.isOpen = true
  · obtain ⟨e, he, ho⟩ := hopen
    rw [closeEntry_of_open he ho]
    refine ⟨?_, ?_, ⟨fun x hx => ?_, ?_⟩, ?_, fun l hl => ?_, fun p hp hd j f hf hfw => ?_, ?_⟩
    · have := closeEntry_onePerWord s i h.one
      rwa [closeEntry_of_open he ho] at this
    · refine entriesQueued_of_set h.entries rfl ?_ fun j hj => ?_
      · rw [List.count_append, h.entries i, he, waitsInQueue_of_open ho]
        simp [waitsInQueue, Entry.isOpen]
      · rw [List.count_append, List.count_singleton, if_neg (by simpa using Ne.symm hj), Nat.add_zero]
    · obtain hx | hx := List.mem_append.mp hx
      · exact h.prefetch.1 x hx
      · rw [List.mem_singleton.mp hx]
        rfl
    · simpa [Item.isPrefetch] using h.prefetch.2
    · exact h.seq.congr rfl rfl rfl (fun _ => head?_append_of_some)
        (sameActive_of_set rfl (by rw [he, isActive_of_isOpen ho]) (isActive_close e))
    · obtain ⟨hnone, hword⟩ := h.latch l hl
      refine ⟨hnone, fun j f hf => ?_⟩
      rw [mb_set] at hf
      split at hf
      · cases hf
        subst_vars
        exact hword _ e he
      · exact hword j f hf
    · rw [mb_set] at hf
      split at hf
      · cases hf
        subst_vars
        exact absurd ho (by simp [(h.ahead p hp hd _ e he hfw).1])
      · obtain ⟨hc, ha⟩ := h.ahead p hp hd j f hf hfw
        exact ⟨hc, aheadOfPrefetch_append _ ha⟩
    · refine ⟨fun m hm => ?_, fun m hm => ?_⟩
      · exact (h.marks.1 m hm).trans (by simp)
      · exact (h.marks.2 m hm).trans (by simp)
  · rw [closeEntry_of_not_open fun e he => Bool.eq_false_of_not_eq_true fun ho => hopen ⟨e, he, ho⟩]
    exact h

/-! ## Items that join the tail -/

theorem CoreOk.appendGather {s : State} (h : CoreOk s) (w k : Nat) (o : Origin) : CoreOk (appendItem s (.gather w k o)) where
  one := h.one
  entries i := by
    change (s.mq ++ [Item.gather w k o]).count (.entry i) = _
    rw [List.count_append, h.entries i]
    rfl
  prefetch := by
    refine ⟨fun x hx => ?_, ?_⟩
    · obtain hx | hx := List.mem_append.mp hx
      · exact h.prefetch.1 x hx
      · rw [List.mem_singleton.mp hx]
        rfl
    · change (s.mq ++ [Item.gather w k o]).countP Item.isPrefetch = _
      simpa [Item.isPrefetch] using h.prefetch.2
  seq := h.seq.congr rfl rfl rfl (fun _ => head?_append_of_some) (sameActive_of_eq rfl)
  latch := h.latch
  ahead p hp hd j f hf hfw := by
    obtain ⟨hc, ha⟩ := h.ahead p hp hd j f hf hfw
    exact ⟨hc, aheadOfPrefetch_append _ ha⟩
  marks := ⟨fun m hm => (h.marks.1 m hm).trans (by simp), fun m hm => (h.marks.2 m hm).trans (by simp)⟩

/-- A prefetch of a word that no entry is OPEN for joins the tail (R136). -/
theorem CoreOk.appendPrefetch {s : State} {w : Nat} (h : CoreOk s) (hl : s.ral.latch = none) (hp : s.ral.prefetch = none)
    (hw : NotOpenFor s w) (o : Origin) :
    CoreOk { s with mq := s.mq ++ [.prefetch w o], ral := { s.ral with prefetch := some ⟨w, false⟩ } } := by
  have hnone : s.mq.countP Item.isPrefetch = 0 := by rw [h.prefetch.2, hp]; rfl
  refine ⟨h.one, fun i => ?_, ⟨fun x hx => ?_, ?_⟩, ?_, fun l hll => ?_, fun p hpp hd j f hf hfw => ?_, ?_⟩
  · rw [List.count_append, h.entries i]
    rfl
  · obtain hx | hx := List.mem_append.mp hx
    · cases x with
      | prefetch v o => exact absurd (List.countP_eq_zero.mp hnone _ hx) (by simp [Item.isPrefetch])
      | entry | gather => rfl
    · rw [List.mem_singleton.mp hx]
      simp [prefetchItemOk]
  · rw [List.countP_append, hnone]
    rfl
  · exact h.seq.congr rfl rfl rfl (fun _ => head?_append_of_some) (sameActive_of_eq rfl)
  · rw [hl] at hll
    cases hll
  · cases hpp
    have hc : f.isOpen = false := Bool.eq_false_of_not_eq_true fun ho => hw j f hf ho hfw
    refine ⟨hc, aheadOfPrefetch_of_mem hnone ((h.entries.mem_iff j).mpr ?_) _⟩
    rw [show s.mb[j] = some f from hf, waitsInQueue_of_not_open hc]
  · exact ⟨fun m hm => (h.marks.1 m hm).trans (by simp), fun m hm => (h.marks.2 m hm).trans (by simp)⟩

/-! ## The head item leaves -/

/-- The marks follow the head item out of the queue (R111). -/
theorem marksOk_of_head {s t : State} (h : MarksOk s) (hq : t.mq.length + 1 = s.mq.length)
    (hf : t.cmu.flushMark = lowerMark s.cmu.flushMark) (hd : t.hld.drainMark = lowerMark s.hld.drainMark) : MarksOk t := by
  refine ⟨fun m hm => ?_, fun m hm => ?_⟩
  · rw [hf] at hm
    obtain ⟨n, hn, rfl⟩ := Option.map_eq_some_iff.mp hm
    have := h.1 n hn
    omega
  · rw [hd] at hm
    obtain ⟨n, hn, rfl⟩ := Option.map_eq_some_iff.mp hm
    have := h.2 n hn
    omega

/-- The head item's entry becomes FREE with its item (R104, R110). -/
theorem CoreOk.dropEntry {s t : State} {i : Fin 8} {rest : List Item} (h : CoreOk s) (hq : s.mq = .entry i :: rest)
    (hmb : t.mb = s.mb.set i none) (hmq : t.mq = rest) (hral : t.ral = s.ral) (hf : t.cmu.flushMark = lowerMark s.cmu.flushMark)
    (hd : t.hld.drainMark = lowerMark s.hld.drainMark) (hseq : Sequencing t) : CoreOk t := by
  have hkept {j : Fin 8} {f : Entry} (hf : t.mb[j] = some f) : s.mb[j] = some f ∧ i ≠ j := by
    rw [hmb, mb_set] at hf
    split at hf
    · cases hf
    · exact ⟨hf, ‹_›⟩
  refine ⟨?_, ?_, ⟨fun x hx => ?_, ?_⟩, hseq, fun l hl => ?_, fun p hp hdr j f hf hfw => ?_, marksOk_of_head h.marks (by simp [hq, hmq]) hf hd⟩
  · exact (noNewOpen_of_set hmb nofun).onePerWord h.one
  · refine entriesQueued_of_set h.entries hmb (by rw [hmq, (h.entries.head hq).2]; rfl) fun j hj => ?_
    rw [hmq, hq, List.count_cons_of_ne]
    simpa using Ne.symm hj
  · rw [prefetchItemOk_of_word (s := s) (by rw [hral])]
    exact h.prefetch.1 x (by rw [hq]; exact List.mem_cons_of_mem _ (hmq ▸ hx))
  · rw [hmq, hral, ← h.prefetch.2, hq, List.countP_cons_of_neg (by simp [Item.isPrefetch])]
  · obtain ⟨hnone, hword⟩ := h.latch l (hral ▸ hl)
    exact ⟨by rw [hral, hnone], fun j f hf => hword j f (hkept hf).1⟩
  · obtain ⟨hsf, hij⟩ := hkept hf
    obtain ⟨hc, ha⟩ := h.ahead p (hral ▸ hp) hdr j f hsf hfw
    rw [hq] at ha
    exact ⟨hc, hmq ▸ aheadOfPrefetch_tail rfl (by simpa using hij) ha⟩

/-- A gather READ leaves the head of the queue (R110). -/
theorem CoreOk.dropGather {s t : State} {w k : Nat} {o : Origin} {rest : List Item} (h : CoreOk s) (hq : s.mq = .gather w k o :: rest)
    (hmb : t.mb = s.mb) (hmq : t.mq = rest) (hral : t.ral = s.ral) (hf : t.cmu.flushMark = lowerMark s.cmu.flushMark)
    (hd : t.hld.drainMark = lowerMark s.hld.drainMark) (hseq : Sequencing t) : CoreOk t := by
  refine ⟨?_, fun i => ?_, ⟨fun x hx => ?_, ?_⟩, hseq, ?_, fun p hp hdr j f hf hfw => ?_, marksOk_of_head h.marks (by simp [hq, hmq]) hf hd⟩
  · exact (NoNewOpen.of_eq hmb).onePerWord h.one
  · rw [hmq, hmb, ← h.entries i, hq, List.count_cons_of_ne (by simp)]
  · rw [prefetchItemOk_of_word (s := s) (by rw [hral])]
    exact h.prefetch.1 x (by rw [hq]; exact List.mem_cons_of_mem _ (hmq ▸ hx))
  · rw [hmq, hral, ← h.prefetch.2, hq, List.countP_cons_of_neg (by simp [Item.isPrefetch])]
  · simpa only [LatchOk, hral, hmb] using h.latch
  · rw [hmb] at hf
    obtain ⟨hc, ha⟩ := h.ahead p (hral ▸ hp) hdr j f hf hfw
    rw [hq] at ha
    exact ⟨hc, hmq ▸ aheadOfPrefetch_tail (x := .gather w k o) rfl (by simp) ha⟩

/-- The prefetch READ leaves the head of the queue, with its word, dropped or failed (R110, R137). -/
theorem CoreOk.dropPrefetch {s t : State} {w : Nat} {o : Origin} {rest : List Item} (h : CoreOk s) (hq : s.mq = .prefetch w o :: rest)
    (data : Option Word) (hmb : t.mb = s.mb) (hmq : t.mq = rest) (hral : t.ral = s.ral.prefetchEnds data)
    (hf : t.cmu.flushMark = lowerMark s.cmu.flushMark) (hd : t.hld.drainMark = lowerMark s.hld.drainMark) (hseq : Sequencing t) :
    CoreOk t := by
  have hitem := h.prefetch.1 (.prefetch w o) (by rw [hq]; exact List.mem_cons_self)
  obtain ⟨p, hp⟩ : ∃ p, s.ral.prefetch = some p := by
    cases hp : s.ral.prefetch with
    | none => simp [prefetchItemOk, hp] at hitem
    | some p => exact ⟨p, rfl⟩
  have hends : t.ral.prefetch = none := by
    rw [hral]
    unfold Ral.prefetchEnds
    split
    · simp_all
    · split <;> rfl
    · rfl
  have hzero : rest.countP Item.isPrefetch = 0 := by
    have := h.prefetch.2
    rw [hq, hp, List.countP_cons_of_pos rfl] at this
    simpa using this
  refine ⟨?_, fun i => ?_, ⟨fun x hx => ?_, ?_⟩, hseq, fun l hl => ⟨hends, fun i e he hw => ?_⟩, fun p' hp' => ?_,
    marksOk_of_head h.marks (by simp [hq, hmq]) hf hd⟩
  · exact (NoNewOpen.of_eq hmb).onePerWord h.one
  · rw [hmq, hmb, ← h.entries i, hq, List.count_cons_of_ne (by simp)]
  · cases x with
    | prefetch v o' => exact absurd (List.countP_eq_zero.mp hzero _ (hmq ▸ hx)) (by simp [Item.isPrefetch])
    | entry | gather => rfl
  · rw [hmq, hends, hzero]
    rfl
  · have hlive : p.dropped = false ∧ l.word = p.word := by
      rw [hral] at hl
      unfold Ral.prefetchEnds at hl
      cases data <;> cases hdr : p.dropped <;> simp_all
      exact hl ▸ rfl
    rw [hmb] at he
    have ha := (h.ahead p hp hlive.1 i e he (hw.trans hlive.2)).2
    simp [aheadOfPrefetch, hq, Item.isPrefetch] at ha
  · rw [hends] at hp'
    cases hp'

end Sys2Proof.Machine
end

-- ==== The gather record and its READ items ====
section
/-! PROOFS. The gather record agrees with the queue (R108, R127, R129): its READ items are those of its QUEUED words. What of the queue it is
about, how a read fills the record with the items behind it, and what a READ's end leaves. -/

namespace Sys2Proof.Machine

/-! ## The part of the queue that it is about -/

/-- The item is a gather READ. -/
def Item.isGather : Item → Bool
  | .gather _ _ _ => true
  | .entry _ => false
  | .prefetch _ _ => false

/-- The gather READ items of a queue, in their order. -/
def gatherItems (q : List Item) : List Item := q.filter Item.isGather

theorem mem_gatherItems {q : List Item} {x : Item} : x ∈ gatherItems q ↔ x ∈ q ∧ x.isGather = true := List.mem_filter

@[simp] theorem gatherItems_append (q r : List Item) : gatherItems (q ++ r) = gatherItems q ++ gatherItems r := List.filter_append ..

theorem countP_gatherItems (q : List Item) (k : Nat) : (gatherItems q).countP (Item.isGatherAt k) = q.countP (Item.isGatherAt k) := by
  rw [gatherItems, List.countP_filter]
  congr 1
  funext x
  cases x <;> simp [Item.isGatherAt, Item.isGather]

theorem forall_gatherItemOk_iff {s : State} {q : List Item} :
    (∀ x ∈ q, gatherItemOk s x = true) ↔ ∀ x ∈ gatherItems q, gatherItemOk s x = true := by
  refine ⟨fun h x hx => h x (mem_gatherItems.mp hx).1, fun h x hx => ?_⟩
  cases x with
  | gather w k o => exact h _ (mem_gatherItems.mpr ⟨hx, rfl⟩)
  | entry | prefetch => rfl

/-- The gather record and the queue agree when the record, its READ items and GATHERING are as they were. -/
theorem GatherQueued.congr {s t : State} (h : GatherQueued s) (hq : gatherItems t.mq = gatherItems s.mq) (hrg : t.rg = s.rg)
    (hst : t.hpc.state = .gathering ↔ s.hpc.state = .gathering) : GatherQueued t := by
  have hok : gatherItemOk t = gatherItemOk s := by
    funext x
    cases x <;> simp only [gatherItemOk, hrg]
  obtain ⟨hitems, hcount, hlen, hused⟩ := h
  refine ⟨?_, fun k => ?_, by simpa only [hrg] using hlen, ?_⟩
  · rw [forall_gatherItemOk_iff] at hitems ⊢
    rwa [hq, hok]
  · rw [← countP_gatherItems, hq, countP_gatherItems, hcount k]
    simp only [queuedAt, hrg]
  · rw [hrg, hused, decide_eq_decide, hst]

theorem GatherQueued.of_eq {s t : State} (h : GatherQueued s) (hq : t.mq = s.mq) (hrg : t.rg = s.rg) (hst : t.hpc.state = s.hpc.state) :
    GatherQueued t := h.congr (by rw [hq]) hrg (by rw [hst])

/-- Outside a read there is no record and no gather READ. -/
theorem gatherQueued_of_none {s : State} (hq : gatherItems s.mq = []) (hrg : s.rg = none) (hst : s.hpc.state ≠ .gathering) :
    GatherQueued s := by
  refine ⟨forall_gatherItemOk_iff.mpr (by simp [hq]), fun k => ?_, by simp [hrg], by simp [hrg, hst]⟩
  rw [← countP_gatherItems, hq]
  simp [queuedAt, hrg]

theorem GatherQueued.rg_eq_none {s : State} (h : GatherQueued s) (hst : s.hpc.state ≠ .gathering) : s.rg = none := by
  have := h.2.2.2
  rw [decide_eq_false hst] at this
  simpa using this

theorem GatherQueued.items_eq_nil {s : State} (h : GatherQueued s) (hrg : s.rg = none) : gatherItems s.mq = [] := by
  refine List.eq_nil_iff_forall_not_mem.mpr fun x hx => ?_
  have hok := forall_gatherItemOk_iff.mp h.1 x hx
  cases x with
  | gather w k o => simp [gatherItemOk, hrg] at hok
  | entry | prefetch => cases (mem_gatherItems.mp hx).2

/-- A complete gather has no READ item left (R131). -/
theorem GatherQueued.items_of_complete {s : State} {g : Gather} (h : GatherQueued s) (hrg : s.rg = some g) (hc : g.complete = true) :
    gatherItems s.mq = [] := by
  refine List.eq_nil_iff_forall_not_mem.mpr fun x hx => ?_
  have hok := forall_gatherItemOk_iff.mp h.1 x hx
  cases x with
  | gather w k o =>
    simp only [gatherItemOk, hrg, Bool.and_eq_true, decide_eq_true_eq] at hok
    exact absurd (List.all_eq_true.mp hc _ (List.mem_of_getElem? hok.2)) (by simp [WordSlot.isQueued])
  | entry | prefetch => cases (mem_gatherItems.mp hx).2

/-! ## The READ items of a record -/

/-- The READ items of the QUEUED words, from an index on, in order (R129). -/
def readItems (o : Origin) : Nat → List WordSlot → List Item
  | _, [] => []
  | k, x :: l => (if x.isQueued then [.gather x.word k o] else []) ++ readItems o (k + 1) l

theorem WordSlot.isQueued_iff {x : WordSlot} : x.isQueued = true ↔ x = ⟨x.word, .queued⟩ := by
  obtain ⟨w, st⟩ := x
  cases st <;> simp [isQueued]

theorem mem_readItems {o : Origin} {l : List WordSlot} {k : Nat} {x : Item} (h : x ∈ readItems o k l) :
    ∃ j w, x = .gather w (k + j) o ∧ l[j]? = some ⟨w, .queued⟩ := by
  induction l generalizing k with
  | nil => cases h
  | cons y l ih =>
    obtain h | h := List.mem_append.mp h
    · split at h
      · obtain rfl := List.mem_singleton.mp h
        exact ⟨0, y.word, rfl, by rw [List.getElem?_cons_zero, ← WordSlot.isQueued_iff.mp ‹_›]⟩
      · cases h
    · obtain ⟨j, w, rfl, hj⟩ := ih h
      exact ⟨j + 1, w, by rw [Nat.add_right_comm]; rfl, by simpa using hj⟩

theorem countP_readItems_of_lt {o : Origin} (l : List WordSlot) {k j : Nat} (h : j < k) :
    (readItems o k l).countP (Item.isGatherAt j) = 0 := by
  refine List.countP_eq_zero.mpr fun x hx => ?_
  obtain ⟨i, w, rfl, -⟩ := mem_readItems hx
  simp [Item.isGatherAt]
  omega

theorem countP_readItems (o : Origin) (l : List WordSlot) (k j : Nat) :
    (readItems o k l).countP (Item.isGatherAt (k + j)) = ((l[j]?).any WordSlot.isQueued).toNat := by
  induction l generalizing k j with
  | nil => rfl
  | cons y l ih =>
    rw [readItems, List.countP_append]
    cases j with
    | zero =>
      rw [countP_readItems_of_lt l (by omega)]
      cases hy : y.isQueued <;> simp [hy, Item.isGatherAt]
    | succ j =>
      rw [show k + (j + 1) = k + 1 + j by omega, ih]
      have hne : ((if y.isQueued then [Item.gather y.word k o] else []) : List Item).countP (Item.isGatherAt (k + 1 + j)) = 0 := by
        split
        · simp [Item.isGatherAt]
          omega
        · rfl
      rw [hne]
      simp

/-- The queue, the entries and the latch agree, and the gather READ items are these. -/
abbrev CoreWith (items : List Item) (s : State) : Prop := CoreOk s ∧ gatherItems s.mq = items

/-- Closing an entry adds no gather READ (R92). -/
theorem closeEntry_gatherItems (s : State) (i : Fin 8) : gatherItems (closeEntry s i).mq = gatherItems s.mq := by
  by_cases h : ∃ e, s.mb[i] = some e ∧ e.isOpen = true
  · obtain ⟨e, he, ho⟩ := h
    rw [closeEntry_of_open he ho]
    exact (gatherItems_append ..).trans (List.append_nil _)
  · rw [closeEntry_of_not_open fun e he => Bool.eq_false_of_not_eq_true fun ho => h ⟨e, he, ho⟩]

theorem closeEntry_coreWith {items : List Item} (s : State) (i : Fin 8) (h : CoreWith items s) : CoreWith items (closeEntry s i) :=
  ⟨closeEntry_coreOk s i h.1, (closeEntry_gatherItems s i).trans h.2⟩

/-- A read's words are taken from the latch, or their READ items join the tail in order (R129). -/
theorem resolveWords_coreWith {items : List Item} (o : Origin) (ws : List Nat) {s : State} (k : Nat) (h : CoreWith items s) :
    CoreWith (items ++ readItems o k (resolveWords s o k ws).2) (resolveWords s o k ws).1 := by
  induction ws generalizing s k items with
  | nil => exact ⟨h.1, h.2.trans (List.append_nil _).symm⟩
  | cons w ws ih =>
    have hread : CoreWith (items ++ [.gather w k o]) (appendItem (closeForRead s w) (.gather w k o)) := by
      obtain ⟨hc, hi⟩ := closeForRead_keep (P := CoreWith items) closeEntry_coreWith w h
      exact ⟨hc.appendGather w k o, (gatherItems_append ..).trans (by rw [hi]; rfl)⟩
    have hqueued := ih (k + 1) hread
    rw [List.append_assoc] at hqueued
    unfold resolveWords
    split
    · split
      · exact ih (k + 1) h
      · exact hqueued
    · exact hqueued

theorem distinctWords_concat_tail (l : List ListEntry) (lane : Nat) : distinctWords (l ++ [.tail lane]) = distinctWords l := by
  simp [distinctWords]

theorem distinctWords_concat_pixel (l : List ListEntry) (p : Pixel) :
    distinctWords (l ++ [.pixel p]) = if (distinctWords l).contains p.word then distinctWords l else distinctWords l ++ [p.word] := by
  unfold distinctWords
  rw [List.foldl_append]
  rfl

theorem distinctWords_length_le (l : List ListEntry) : (distinctWords l).length ≤ l.length := by
  induction l using List.reverseRecOn with
  | nil => exact Nat.le_refl 0
  | append_singleton l x ih =>
    cases x with
    | tail => rw [distinctWords_concat_tail]; simp; omega
    | pixel p => rw [distinctWords_concat_pixel]; split <;> simp <;> omega

/-- The RG's record of a read and the READ items behind it agree (R127, R129). -/
theorem planRead_agrees {s : State} {l : List ListEntry} (h : CoreOk s) (hq : gatherItems s.mq = []) (hl : l.length ≤ 4)
    (hst : s.hpc.state = .gathering) (o : Origin) (f : Format) : CoreOk (planRead s o f l) ∧ GatherQueued (planRead s o f l) := by
  obtain ⟨hcore, hitems⟩ := resolveWords_coreWith o (distinctWords l) 0 ⟨h, hq⟩
  have hlen : (resolveWords s o 0 (distinctWords l)).2.length ≤ 4 := by
    rw [← List.length_map (f := WordSlot.word), resolveWords_words]
    exact (distinctWords_length_le l).trans hl
  have hst' : (planRead s o f l).hpc.state = .gathering := by rw [planRead_frame, hst]
  have hq' : gatherItems (planRead s o f l).mq = readItems o 0 (resolveWords s o 0 (distinctWords l)).2 := by simpa [planRead] using hitems
  refine ⟨hcore.congr rfl rfl rfl rfl rfl rfl, forall_gatherItemOk_iff.mpr fun x hx => ?_, fun k => ?_, ?_, ?_⟩
  · obtain ⟨j, w, rfl, hj⟩ := mem_readItems (hq' ▸ hx)
    have hlt : j < 4 := (List.getElem?_eq_some_iff.mp hj).1.trans_le hlen
    simp [gatherItemOk, planRead, hj, hlt]
  · rw [← countP_gatherItems, hq']
    have := countP_readItems o (resolveWords s o 0 (distinctWords l)).2 0 k.val
    rw [Nat.zero_add] at this
    rw [this]
    simp only [queuedAt, planRead]
    cases (resolveWords s o 0 (distinctWords l)).2[k.val]? <;> rfl
  · rintro g hg
    cases hg
    exact hlen
  · rw [hst']
    rfl

/-! ## A READ ends -/

theorem Gather.resolve_words_self (g : Gather) (k : Nat) (st : WordState) :
    (g.resolve k st).words[k]? = (g.words[k]?).map fun x => { x with state := st } := by simp [Gather.resolve]

theorem Gather.resolve_words_other (g : Gather) {k j : Nat} (h : k ≠ j) (st : WordState) :
    (g.resolve k st).words[j]? = g.words[j]? := by simp [Gather.resolve, h]

@[simp] theorem Gather.resolve_words_length (g : Gather) (k : Nat) (st : WordState) : (g.resolve k st).words.length = g.words.length := by
  simp [Gather.resolve]

/-- The head READ item ends and its word is resolved (R110, R130). -/
theorem GatherQueued.drop {s t : State} {w k : Nat} {o : Origin} {rest : List Item} {st : WordState} (h : GatherQueued s)
    (hq : s.mq = .gather w k o :: rest) (hmq : t.mq = rest) (hrg : t.rg = s.rg.map fun g => g.resolve k st)
    (hdone : WordSlot.isQueued ⟨w, st⟩ = false) (hst : t.hpc.state = s.hpc.state) : GatherQueued t := by
  obtain ⟨hitems, hcount, hlen, hused⟩ := h
  have hhead := hitems (.gather w k o) (by rw [hq]; exact List.mem_cons_self)
  obtain ⟨g, hg⟩ : ∃ g, s.rg = some g := by
    cases hg : s.rg with
    | none => simp [gatherItemOk, hg] at hhead
    | some g => exact ⟨g, rfl⟩
  obtain ⟨hk, hword⟩ : k < 4 ∧ g.words[k]? = some ⟨w, .queued⟩ := by simpa [gatherItemOk, hg] using hhead
  have hrg' : t.rg = some (g.resolve k st) := by rw [hrg, hg]; rfl
  have hnomore : rest.countP (Item.isGatherAt k) = 0 := by
    have := hcount ⟨k, hk⟩
    rw [hq, List.countP_cons_of_pos (by simp [Item.isGatherAt])] at this
    simpa [queuedAt, hg, hword, WordSlot.isQueued] using this
  refine ⟨fun x hx => ?_, fun j => ?_, fun g' hg' => ?_, by rw [hrg', hst, ← hused, hg]; rfl⟩
  · rw [hmq] at hx
    cases x with
    | gather v j p =>
      have hj : k ≠ j := fun hkj => List.countP_eq_zero.mp hnomore _ hx (by simp [Item.isGatherAt, hkj])
      have hx' := hitems _ (hq ▸ List.mem_cons_of_mem _ hx)
      simpa only [gatherItemOk, hrg', hg, Gather.resolve_words_other g hj] using hx'
    | entry | prefetch => rfl
  · rw [hmq]
    by_cases hj : k = j.val
    · rw [← hj, hnomore]
      simp only [queuedAt, hrg', Gather.resolve_words_self, hword, Option.map_some]
      rw [hdone]
      rfl
    · have := hcount j
      rw [hq, List.countP_cons_of_neg (by simpa [Item.isGatherAt] using hj)] at this
      rw [this]
      simp only [queuedAt, hrg', hg, Gather.resolve_words_other g hj]
  · rw [hrg'] at hg'
    cases hg'
    rw [Gather.resolve_words_length]
    exact hlen g hg

end Sys2Proof.Machine
end

-- ==== Every step keeps the queue and the latch ====
section
/-! PROOFS. That every event keeps the queue, the entries, the sequencer, the gather record, the latch and the marks in agreement (R84, R108, R111,
R114, R127, R129, R133): the host port's events by what placing and gathering do, the sequencer's by what becomes of the head item. -/

namespace Sys2Proof.Machine

/-- The queue agrees with the entries, the latch, the marks and the sequencer, and with the gather record; `QueueOk` part by part. -/
abbrev Agrees (s : State) : Prop := CoreOk s ∧ GatherQueued s

theorem Agrees.congr {s t : State} (h : Agrees s) (hmb : t.mb = s.mb) (hmq : t.mq = s.mq) (hral : t.ral = s.ral) (hmsq : t.msq = s.msq)
    (hf : t.cmu.flushMark = s.cmu.flushMark) (hd : t.hld.drainMark = s.hld.drainMark) (hrg : t.rg = s.rg)
    (hst : t.hpc.state = s.hpc.state) : Agrees t := ⟨h.1.congr hmb hmq hral hmsq hf hd, h.2.of_eq hmq hrg hst⟩

/-- Outside a read: no record, no gather READ, and not GATHERING (R127). -/
theorem agrees_of_no_read {s : State} (h : CoreWith [] s) (hrg : s.rg = none) (hst : s.hpc.state ≠ .gathering) : Agrees s :=
  ⟨h.1, gatherQueued_of_none h.2 hrg hst⟩

theorem Agrees.no_read {s : State} (h : Agrees s) (hst : s.hpc.state ≠ .gathering) : CoreWith [] s ∧ s.rg = none :=
  have hrg := h.2.rg_eq_none hst
  ⟨⟨h.1, h.2.items_eq_nil hrg⟩, hrg⟩

/-! ## Placing -/

theorem coreWith_keptByPlacing (items : List Item) : KeptByPlacing (CoreWith items) where
  close s i h := closeEntry_coreWith s i h
  merge s i e e' h he ho ho' hw := by
    refine ⟨(h.1.weaker (Ral.weaker_placed s.ral e.word)).reopen (fun j => ?_) rfl, h.2⟩
    by_cases hij : i = j
    · subst hij
      exact .inr ⟨e, e', he, mb_set_same .., ho, ho', hw⟩
    · exact .inl (mb_set_other _ hij _)
  openFree s i e h hfree hw ho :=
    ⟨(h.1.weaker (Ral.weaker_placed s.ral e.word)).open hfree hw ho Ral.placed_latch_word Ral.placed_prefetch_word, h.2⟩
  onePerWord _ h := h.1.one

theorem answer_not_gathering (s : State) (error : Bool) (data : HostWord) : (answer s error data).hpc.state ≠ .gathering := by
  dsimp only [answer]
  split <;> simp

theorem answer_coreWith {items : List Item} {s : State} (h : CoreWith items s) (error : Bool) (data : HostWord) :
    CoreWith items (answer s error data) := ⟨h.1.congr rfl rfl rfl rfl rfl rfl, h.2⟩

theorem continueWrite_coreWith {items : List Item} {s : State} (a : AccessRecord) (h : CoreWith items s) :
    CoreWith items (continueWrite s a) := by
  obtain ⟨hcore, hitems⟩ := (coreWith_keptByPlacing items).placeList (a.list.drop a.next) h
  have hnext (n : Nat) : CoreWith items (withNext (placeList s (a.list.drop a.next)).1 a n) := ⟨hcore.congr rfl rfl rfl rfl rfl rfl, hitems⟩
  dsimp only [continueWrite]
  split
  · exact completionNotification_keep closeEntry_coreWith (answer_coreWith (hnext _) false 0)
  · exact hnext _

theorem continueWrite_not_gathering {s : State} (a : AccessRecord) (h : s.hpc.state ≠ .gathering) :
    (continueWrite s a).hpc.state ≠ .gathering := by
  dsimp only [continueWrite]
  split
  · rw [finishWrite, (completionNotification_closesOnly _).frame]
    exact answer_not_gathering _ _ _
  · rw [withNext, placeList_frame]
    exact h

theorem continueWrite_agrees {s : State} (a : AccessRecord) (h : CoreWith [] s) (hrg : s.rg = none) (hst : s.hpc.state ≠ .gathering) :
    Agrees (continueWrite s a) :=
  agrees_of_no_read (continueWrite_coreWith a h) (by rw [continueWrite_frame, hrg]) (continueWrite_not_gathering a hst)

theorem takeWaitingPlacement_agrees {s : State} (h : Agrees s) : Agrees (takeWaitingPlacement s) := by
  unfold takeWaitingPlacement
  split
  · split
    · rename_i a ha
      have hst : s.hpc.state ≠ .gathering := by
        unfold waitingWrite at ha
        split at ha
        · simp [*]
        · cases ha
      obtain ⟨hcore, hrg⟩ := h.no_read hst
      exact continueWrite_agrees a hcore hrg hst
    · exact h
  · exact h

/-! ## Reading -/

theorem issuePrefetch_coreWith {items : List Item} {s : State} {n : Fin 8} {w : Nat} (h : CoreWith items s) (hp : s.ral.prefetch = none) :
    CoreWith items (issuePrefetch s n w) := by
  have hlatch : CoreWith items { s with ral := { s.ral with latch := none } } := ⟨h.1.weaker s.ral.weaker_noLatch, h.2⟩
  obtain ⟨hcore, hitems⟩ := closeForRead_keep (P := CoreWith items) closeEntry_coreWith w hlatch
  have hral : (closeForRead { s with ral := { s.ral with latch := none } } w).ral = { s.ral with latch := none } := by
    rw [(closeForRead_closesOnly _ w).frame]
  refine ⟨hcore.appendPrefetch (by rw [hral]) (by rw [hral, hp]) (notOpenFor_closeForRead hlatch.1.one w) _, ?_⟩
  exact (gatherItems_append ..).trans ((List.append_nil _).trans hitems)

theorem streamReadNotification_coreWith {items : List Item} {s : State} (n : Fin 8) (r : Region) (h : CoreWith items s) :
    CoreWith items (streamReadNotification s n r) := by
  dsimp only [streamReadNotification]
  split
  · split
    · exact h
    · rename_i hneeded
      refine issuePrefetch_coreWith h ?_
      simp only [prefetchNotNeeded, Bool.or_eq_true, not_or] at hneeded
      simpa using hneeded.1
  · exact h

theorem finishRead_agrees {s : State} {g : Gather} (h : CoreWith [] s) : Agrees (finishRead s g) := by
  refine agrees_of_no_read ?_ (by rw [finishRead_frame]) (by rw [finishRead_hpc]; exact answer_not_gathering _ _ _)
  have hanswered := answer_coreWith (s := { s with rg := none }) ⟨h.1.congr rfl rfl rfl rfl rfl rfl, h.2⟩ g.anyFailed
    (if g.anyFailed then 0 else g.assembled)
  dsimp only [finishRead]
  split
  · split
    · split
      · exact streamReadNotification_coreWith _ _ hanswered
      · exact hanswered
    · exact hanswered
  · exact hanswered

theorem readDue_iff {s : State} : readDue s = true ↔ s.hpc.state = .gathering ∧ ∃ g, s.rg = some g ∧ g.complete = true := by
  unfold readDue
  cases s.rg <;> simp

theorem answerRead_agrees {s : State} (h : Agrees s) : Agrees (answerRead s) := by
  unfold answerRead
  split
  · obtain ⟨-, g, hg, hc⟩ := readDue_iff.mp ‹_›
    simp only [hg]
    exact finishRead_agrees ⟨h.1, h.2.items_of_complete hg hc⟩
  · exact h

/-! ## Claiming -/

theorem startAccess_agrees {s : State} {a : AccessRecord} (h : CoreWith [] s) (hrg : s.rg = none)
    (hlen : a.list.length ≤ 4) (o : Origin) (f : Format) : Agrees (startAccess s a o f) := by
  have hplaced (st : HpcState) : CoreWith [] { s with hpc := { s.hpc with state := st, access := some a } } :=
    ⟨h.1.congr rfl rfl rfl rfl rfl rfl, h.2⟩
  unfold startAccess
  split
  · split
    · exact agrees_of_no_read ⟨h.1.congr rfl rfl rfl rfl rfl rfl, h.2⟩ hrg (answer_not_gathering _ _ _)
    · exact continueWrite_agrees a (hplaced .placing) hrg nofun
  · exact answerRead_agrees (planRead_agrees (hplaced .gathering).1 (hplaced .gathering).2 hlen rfl o f)

theorem enabledUnits_length_le (f : Format) (lanes : BitVec 4) : (enabledUnits f lanes).length ≤ 4 := by
  unfold enabledUnits
  split
  · exact (List.length_filter_le ..).trans (by decide)
  · exact (List.length_filter_le ..).trans (by decide)

theorem mappedList_length_le (r : Region) (n : Fin 8) (write : Bool) (address : Nat) (lanes : BitVec 4) (data : HostWord) :
    (mappedList r n write address lanes data).length ≤ 4 := by
  have hall : ((enabledUnits r.format lanes).map (mappedEntry r n write address data)).length ≤ 4 := by
    rw [List.length_map]
    exact enabledUnits_length_le ..
  dsimp only [mappedList]
  split
  · exact (List.length_filter_le ..).trans hall
  · exact hall

theorem streamList_length_le (r : Region) (n : Fin 8) (write : Bool) (lanes : BitVec 4) (data : HostWord) (ps : List Position) :
    (streamList r n write lanes data ps).length ≤ 4 := by
  rw [streamList, List.length_map, List.length_zip]
  exact (Nat.min_le_left ..).trans (enabledUnits_length_le ..)

theorem passList_length_le (write : Bool) (address : Nat) (lanes : BitVec 4) (data : HostWord) :
    (passList write address lanes data).length ≤ 4 := by
  rw [passList, List.length_map]
  exact enabledUnits_length_le ..

theorem refuseAccess_agrees {s : State} (a : AccessRecord) (k : FaultKind) (o : Option Origin) (h : CoreWith [] s) (hrg : s.rg = none) :
    Agrees (refuseAccess s a k o) :=
  agrees_of_no_read ⟨h.1.congr rfl rfl rfl rfl rfl rfl, h.2⟩ hrg (answer_not_gathering _ _ _)

theorem claimRegion_agrees {s : State} (l : HostLines) (n : Fin 8) (h : CoreWith [] s) (hrg : s.rg = none) :
    Agrees (claimRegion s l n) := by
  dsimp only [claimRegion]
  split
  · exact refuseAccess_agrees _ _ _ h hrg
  · split
    · exact refuseAccess_agrees _ _ _ h hrg
    · split
      · exact startAccess_agrees h hrg (mappedList_length_le ..) _ _
      · refine startAccess_agrees ?_ ?_ ?_ _ _
        · exact ⟨h.1.congr rfl rfl rfl rfl rfl rfl, h.2⟩
        · exact hrg
        · exact streamList_length_le ..

/-- A request is taken outside a read (R49, R53). -/
theorem takeRequest_agrees {s : State} (h : Agrees s) (hst : s.hpc.state ≠ .gathering) : Agrees (takeRequest s) := by
  obtain ⟨hcore, hrg⟩ := h.no_read hst
  dsimp only [takeRequest]
  split
  · exact agrees_of_no_read (answer_coreWith hcore _ _) hrg (answer_not_gathering _ _ _)
  · split
    · exact refuseAccess_agrees _ _ _ hcore hrg
    · exact claimRegion_agrees _ _ hcore hrg
    · exact startAccess_agrees hcore hrg (passList_length_le ..) _ _

theorem seeRequest_agrees {s : State} (h : Agrees s) (hi : s.hpc.state = .idle) : Agrees (seeRequest s) := by
  have hst : s.hpc.state ≠ .gathering := by simp [hi]
  unfold seeRequest
  split
  · obtain ⟨hcore, hrg⟩ := h.no_read hst
    exact agrees_of_no_read ⟨hcore.1.congr rfl rfl rfl rfl rfl rfl, hcore.2⟩ hrg nofun
  · exact takeRequest_agrees h hst

theorem hreqLowEvent_agrees {s : State} (h : Agrees s) : Agrees (hreqLowEvent s) := by
  dsimp only [hreqLowEvent]
  split
  · rename_i hst
    obtain ⟨hcore, hrg⟩ := h.no_read (by rcases hst with hst | hst <;> simp [hst])
    exact agrees_of_no_read ⟨hcore.1.congr rfl rfl rfl rfl rfl rfl, hcore.2⟩ hrg nofun
  · exact h.congr rfl rfl rfl rfl rfl rfl rfl rfl

/-! ## Grants and the end of RESTART -/

theorem Sequencing.resting_of {s t : State} (h : NoneActive s) (hmb : t.mb = s.mb) (hop : t.msq.op = none) (hr : t.msq.state ≠ .reading)
    (hw : t.msq.state ≠ .writing) (hm : t.mcs = false) : Sequencing t := .resting hop hr hw (by simpa only [NoneActive, hmb] using h) hm

theorem Sequencing.noneActive_of {s : State} (h : Sequencing s) (hst : s.msq.state ≠ .reading ∧ s.msq.state ≠ .writing) : NoneActive s :=
  h.noneActive hst.1 hst.2

/-- The MSQ alone moves, and the sequencer stays in agreement. -/
theorem Agrees.move {s t : State} (h : Agrees s) (hseq : Sequencing t) (hmb : t.mb = s.mb) (hmq : t.mq = s.mq) (hral : t.ral = s.ral)
    (hf : t.cmu.flushMark = s.cmu.flushMark) (hd : t.hld.drainMark = s.hld.drainMark ∨ t.hld.drainMark = none) (hrg : t.rg = s.rg)
    (hst : t.hpc.state = s.hpc.state) : Agrees t := by
  obtain ⟨hc, hg⟩ := h
  refine ⟨⟨?_, ?_, hc.prefetch.congr (by rw [hral]) hmq, hseq, ?_, ?_, ?_, ?_⟩, hg.of_eq hmq hrg hst⟩
  · simpa only [OneOpenPerWord, hmb] using hc.one
  · simpa only [EntriesQueued, hmb, hmq] using hc.entries
  · simpa only [LatchOk, hral, hmb] using hc.latch
  · simpa only [PrefetchOk, hral, hmb, hmq] using hc.ahead
  · rw [hf, hmq]
    exact hc.marks.1
  · rw [hmq]
    rcases hd with hd | hd <;> rw [hd]
    · exact hc.marks.2
    · nofun

theorem takeGrant_agrees {s : State} (h : Agrees s) : Agrees (takeGrant s) := by
  obtain he | ⟨p, -, hst, he⟩ := takeGrant_cases s <;> rw [he]
  · exact h
  · have hnone := h.1.seq.noneActive_of (by rcases hst with hst | hst <;> simp [hst])
    have hral : Agrees { s with ral := s.ral.invalidate } := ⟨h.1.weaker s.ral.weaker_invalidate, h.2.of_eq rfl rfl rfl⟩
    exact hral.move (t := grantPort s p) (.resting_of hnone rfl rfl nofun nofun rfl) rfl rfl rfl rfl (.inr rfl) rfl rfl

/-- With the queue empty no prefetch is pending, so the reset of the latch takes nothing out of the agreement (R170). -/
theorem endRestart_agrees {s : State} (h : Agrees s) : Agrees (endRestart s) := by
  unfold endRestart
  split
  · rename_i hdue
    simp only [restartEndDue, Bool.and_eq_true, decide_eq_true_eq] at hdue
    obtain ⟨⟨-, hq⟩, -⟩ := hdue
    have hp : s.ral.prefetch = none := by
      have := h.1.prefetch.2
      rw [hq] at this
      cases hpf : s.ral.prefetch with
      | none => rfl
      | some p => simp [hpf] at this
    have hral : CoreOk { s with ral := .reset } := h.1.weaker ⟨nofun, by rw [hp]; rfl, nofun⟩
    have hreset : Agrees (restartReset s) := by
      refine ⟨⟨hral.one, hral.entries, hral.prefetch, ?_, hral.latch, hral.ahead, nofun, hral.marks.2⟩, h.2.of_eq rfl rfl rfl⟩
      exact hral.seq.congr rfl rfl rfl (fun _ => id) (sameActive_of_eq rfl)
    split
    · rename_i hst
      exact takeRequest_agrees hreset (by simp [hst])
    · exact hreset
  · exact h

/-! ## The head item -/

/-- An operation of an entry in its ready step: the head item is the entry's and it alone is ACTIVE (R114, R116, R117). -/
theorem Sequencing.entry_of {s : State} {o : Operation} (h : Sequencing s) (hop : s.msq.op = some o) (hk : o.kind ≠ .read)
    (hs : o.step = .ready) :
    ∃ (i : Fin 8) (e : Entry) (p : Phase), o.item = .entry i ∧ s.mq.head? = some (.entry i) ∧ s.mb[i] = some e ∧ e.state = .active p
      ∧ e.word = o.word ∧ ∀ j : Fin 8, j ≠ i → isActive s.mb[j] = false := by
  cases h with
  | resting op => simp [op] at hop
  | onEntry o' i e p op item head entry active word others =>
    obtain rfl := Option.some.inj (op.symm.trans hop)
    exact ⟨i, e, p, item, head, entry, active, word, others⟩
  | onRead o' op _ _ _ _ kind =>
    obtain rfl := Option.some.inj (op.symm.trans hop)
    exact absurd kind hk
  | releasing o' op step =>
    obtain rfl := Option.some.inj (op.symm.trans hop)
    simp [hs] at step

/-- The read of a READ item in its ready step: the head item is that one and no entry is ACTIVE (R114, R118). -/
theorem Sequencing.read_of {s : State} {o : Operation} (h : Sequencing s) (hop : s.msq.op = some o) (hk : o.kind = .read)
    (hs : o.step = .ready) : s.mq.head? = some o.item ∧ o.item.reads o.word ∧ NoneActive s := by
  cases h with
  | resting op => simp [op] at hop
  | onEntry o' i e p op item head entry active word others phase =>
    obtain rfl := Option.some.inj (op.symm.trans hop)
    obtain ⟨-, h, -⟩ | ⟨-, h, -⟩ | ⟨v, -, h, -⟩ | ⟨v, -, h, -⟩ := inPhase_iff.mp phase <;> simp [hk] at h
  | onRead o' op head reads none =>
    obtain rfl := Option.some.inj (op.symm.trans hop)
    exact ⟨head, reads, none⟩
  | releasing o' op step =>
    obtain rfl := Option.some.inj (op.symm.trans hop)
    simp [hs] at step

/-- In the release step of anything but a read-modify-write's read no entry is ACTIVE (R115 to R118). -/
theorem Sequencing.noneActive_of_release {s : State} {o : Operation} (h : Sequencing s) (hop : s.msq.op = some o) (hs : o.step = .release)
    (hst : s.msq.state = .writing ∨ s.msq.state = .reading ∧ ∀ w, o.kind ≠ .rmw (some w)) : NoneActive s := by
  cases h with
  | resting op => simp [op] at hop
  | onEntry o' i e p op item head entry active word others phase =>
    obtain rfl := Option.some.inj (op.symm.trans hop)
    obtain ⟨-, -, h, -⟩ | ⟨-, -, h, -⟩ | ⟨v, hr, hk, -⟩ | ⟨v, -, -, h, -⟩ := inPhase_iff.mp phase
    · simp [hs] at h
    · simp [hs] at h
    · rcases hst with hst | hst
      · simp [hr] at hst
      · exact absurd hk (hst.2 v)
    · simp [hs] at h
  | onRead o' op head reads none => exact none
  | releasing o' op step none => exact none

/-- Once the one ACTIVE entry is FREE none is. -/
theorem noneActive_of_set {s t : State} {i : Fin 8} (h : ∀ j : Fin 8, j ≠ i → isActive s.mb[j] = false) (hmb : t.mb = s.mb.set i none) :
    NoneActive t := by
  intro j
  rw [hmb, mb_set]
  split
  · rfl
  · exact h j (Ne.symm ‹_›)

theorem eq_cons_of_head? {q : List Item} {x : Item} (h : q.head? = some x) : q = x :: q.tail :=
  (List.cons_head?_tail h).symm

/-- An item fails in memory or is dropped (R120, R123). -/
def failItem (s : State) (k : FaultKind) : Item → State
  | .entry i => failEntryItem s i k
  | .gather w index o => failReadItem s k (.gather w index o)
  | .prefetch w o => failReadItem s k (.prefetch w o)

theorem timeoutItem_of_some {s : State} {o : Operation} {k : FaultKind} (h : timeoutKind s.msq.state o = some k) :
    timeoutItem s o = failItem s k o.item := by
  simp only [timeoutItem, h]
  cases o.item <;> rfl

theorem timeoutItem_of_none {s : State} {o : Operation} (h : timeoutKind s.msq.state o = none) : timeoutItem s o = s := by
  simp only [timeoutItem, h]

theorem dropHead_of_cons {s : State} {x : Item} {rest : List Item} (h : s.mq = x :: rest) : dropHead s = failItem s .droppedStuck x := by
  cases x <;> simp only [dropHead, h] <;> rfl

theorem dropHead_of_nil {s : State} (h : s.mq = []) : dropHead s = s := by simp only [dropHead, h]

/-- The failure of an item leaves the pins, the MSQ and the host port alone. -/
theorem failItem_frame (s : State) (k : FaultKind) (x : Item) :
    failItem s k x =
      { s with
        mb := (failItem s k x).mb, mq := (failItem s k x).mq, rg := (failItem s k x).rg, ral := (failItem s k x).ral
        flog := (failItem s k x).flog, cmu := (failItem s k x).cmu, hld := (failItem s k x).hld } := by
  cases x with
  | entry i =>
    have hf : failItem s k (.entry i) = failEntryItem s i k := rfl
    rw [hf, failEntryItem_frame]
  | gather | prefetch => rfl

section
variable {s t : State} {rest : List Item} (h : Agrees s)
include h

/-- The head item's entry leaves with its item (R104, R110). -/
theorem Agrees.dropEntry {i : Fin 8} (hq : s.mq = .entry i :: rest) (hseq : Sequencing t) (hmb : t.mb = s.mb.set i none) (hmq : t.mq = rest)
    (hral : t.ral = s.ral) (hf : t.cmu.flushMark = lowerMark s.cmu.flushMark) (hd : t.hld.drainMark = lowerMark s.hld.drainMark)
    (hrg : t.rg = s.rg) (hst : t.hpc.state = s.hpc.state) : Agrees t :=
  ⟨h.1.dropEntry hq hmb hmq hral hf hd hseq, h.2.congr (by rw [hmq, hq]; rfl) hrg (by rw [hst])⟩

/-- The head READ item of the gather leaves, its word resolved (R110, R130). -/
theorem Agrees.dropGather {w k : Nat} {o : Origin} {st : WordState} (hq : s.mq = .gather w k o :: rest)
    (hdone : WordSlot.isQueued ⟨w, st⟩ = false) (hseq : Sequencing t) (hmb : t.mb = s.mb) (hmq : t.mq = rest) (hral : t.ral = s.ral)
    (hf : t.cmu.flushMark = lowerMark s.cmu.flushMark) (hd : t.hld.drainMark = lowerMark s.hld.drainMark)
    (hrg : t.rg = s.rg.map fun g => g.resolve k st) (hst : t.hpc.state = s.hpc.state) : Agrees t :=
  ⟨h.1.dropGather hq hmb hmq hral hf hd hseq, h.2.drop hq hmq hrg hdone hst⟩

/-- The prefetch READ leaves the head (R110, R137). -/
theorem Agrees.dropPrefetch {w : Nat} {o : Origin} (data : Option Word) (hq : s.mq = .prefetch w o :: rest) (hseq : Sequencing t)
    (hmb : t.mb = s.mb) (hmq : t.mq = rest) (hral : t.ral = s.ral.prefetchEnds data) (hf : t.cmu.flushMark = lowerMark s.cmu.flushMark)
    (hd : t.hld.drainMark = lowerMark s.hld.drainMark) (hrg : t.rg = s.rg) (hst : t.hpc.state = s.hpc.state) : Agrees t :=
  ⟨h.1.dropPrefetch hq data hmb hmq hral hf hd hseq, h.2.congr (by rw [hmq, hq]; rfl) hrg (by rw [hst])⟩

/-- An entry out of OPEN changes its state alone, as the sequencer asks (R114, R117). -/
theorem Agrees.enter {i : Fin 8} {e e' : Entry} (he : s.mb[i] = some e) (hc : e.isOpen = false) (hc' : e'.isOpen = false)
    (hw : e'.word = e.word) (hseq : Sequencing t) (hmb : t.mb = s.mb.set i (some e')) (hmq : t.mq = s.mq) (hral : t.ral = s.ral)
    (hf : t.cmu.flushMark = s.cmu.flushMark) (hd : t.hld.drainMark = s.hld.drainMark) (hrg : t.rg = s.rg)
    (hst : t.hpc.state = s.hpc.state) : Agrees t := by
  obtain ⟨hcore, hg⟩ := h
  have hfound {j : Fin 8} {f : Entry} (hf : t.mb[j] = some f) : ∃ f', s.mb[j] = some f' ∧ f'.word = f.word ∧ f'.isOpen = f.isOpen := by
    rw [hmb, mb_set] at hf
    split at hf
    · cases hf
      subst_vars
      exact ⟨e, he, hw.symm, by rw [hc, hc']⟩
    · exact ⟨f, hf, rfl, rfl⟩
  refine ⟨⟨?_, ?_, hcore.prefetch.congr (by rw [hral]) hmq, hseq, fun l hl => ?_, fun p hp hdr j f hf hfw => ?_, ?_, ?_⟩,
    hg.of_eq hmq hrg hst⟩
  · refine (noNewOpen_of_set hmb fun f hf ho => ?_).onePerWord hcore.one
    cases hf
    simp [hc'] at ho
  · refine entriesQueued_of_set hcore.entries hmb ?_ fun j _ => by rw [hmq]
    rw [hmq, hcore.entries i, he, waitsInQueue_of_not_open hc, waitsInQueue_of_not_open hc']
  · obtain ⟨hnone, hword⟩ := hcore.latch l (hral ▸ hl)
    refine ⟨by rw [hral, hnone], fun j f hf => ?_⟩
    obtain ⟨f', hf', hw', -⟩ := hfound hf
    exact hw' ▸ hword j f' hf'
  · obtain ⟨f', hf', hw', ho'⟩ := hfound hf
    rw [hmq, ← ho']
    exact hcore.ahead p (hral ▸ hp) hdr j f' hf' (hw'.trans hfw)
  · rw [hf, hmq]
    exact hcore.marks.1
  · rw [hd, hmq]
    exact hcore.marks.2

/-! ## Beginning -/

/-- In IDLE the head item's entry is CLOSED, and it becomes ACTIVE for its operation; a READ item's read begins (R114, R116 to R118). -/
theorem beginHead_agrees (hi : s.msq.state = .idle) : Agrees (beginHead s) := by
  have hnone : NoneActive s := h.1.seq.noneActive_of (by simp [hi])
  have hothers {i : Fin 8} {x : Option Entry} : ∀ j : Fin 8, j ≠ i → isActive (s.mb.set i x)[j] = false := fun j hj => by
    rw [mb_set_other _ hj.symm]
    exact hnone j
  obtain hb | ⟨i, rest, e, hq, he, hb⟩ | ⟨x, w, rest, hq, hx, hb⟩ := beginHead_cases s
  · rw [hb]
    exact h
  · have hc : e.isOpen = false := by
      have := (h.1.entries.head hq).1
      rw [he] at this
      simpa [waitsInQueue] using this
    have hhead : s.mq.head? = some (.entry i) := by rw [hq]; rfl
    rcases hb with hb | hb <;> rw [hb]
    · refine h.enter he hc (e' := { e with state := .active .strobeWrite }) rfl rfl ?_ rfl rfl rfl rfl rfl rfl rfl
      exact .onEntry _ i _ .strobeWrite rfl rfl hhead (mb_set_same ..) rfl rfl hothers .strobe rfl
    · refine h.enter he hc (e' := { e with state := .active .rmwRead }) rfl rfl ?_ rfl rfl rfl rfl rfl rfl rfl
      exact .onEntry _ i _ .rmwRead rfl rfl hhead (mb_set_same ..) rfl rfl hothers .reading rfl
  · rw [hb]
    refine h.move ?_ rfl rfl rfl rfl (.inl rfl) rfl rfl
    exact .onRead _ rfl (by rw [beginRead, beginOp, hq]; rfl) hx hnone rfl rfl rfl rfl

theorem beginItemEvent_agrees : Agrees (beginItemEvent s) := by
  obtain he | ⟨hi, he⟩ := beginItemEvent_cases s <;> rw [he]
  · exact h
  · exact beginHead_agrees h hi

/-! ## Completions -/

/-- A write's completion frees the head item's entry and waits for the release (R116, R117). -/
theorem writeCompletes_agrees {o : Operation} (hst : s.msq.state = .writing) (hop : s.msq.op = some o) (hs : o.step = .ready)
    (hk : Ended .writing o.kind) : Agrees (writeCompletes s o) := by
  have hread : o.kind ≠ .read := fun hkind => by rw [hkind] at hk; cases hk
  obtain ⟨i, e, p, hitem, hhead, he, -, -, hothers⟩ := h.1.seq.entry_of hop hread hs
  rw [writeCompletes, hitem]
  refine h.dropEntry (eq_cons_of_head? hhead) ?_ rfl rfl rfl rfl rfl rfl rfl
  refine .releasing { o with step := .release } rfl rfl (noneActive_of_set hothers rfl) ?_ rfl
  change Ended s.msq.state o.kind
  rwa [hst]

theorem strobeWriteCompleteEvent_agrees : Agrees (strobeWriteCompleteEvent s) := by
  obtain he | ⟨o, hst, hop, hs, hk, he⟩ := strobeWriteCompleteEvent_cases s <;> rw [he]
  · exact h
  · exact writeCompletes_agrees h hst hop hs (hk ▸ .strobe)

theorem rmwWriteCompleteEvent_agrees : Agrees (rmwWriteCompleteEvent s) := by
  obtain he | ⟨o, v, hst, hop, hs, hk, he⟩ := rmwWriteCompleteEvent_cases s <;> rw [he]
  · exact h
  · cases v with
    | some v => exact writeCompletes_agrees h hst hop hs (hk ▸ .rmw v)
    | none =>
      have hphase : ∀ p, ¬ InPhase s.msq.state o.kind o.step p := fun p hp => by
        rw [hst, hk, hs] at hp
        cases hp
      have hseq := h.1.seq
      exfalso
      cases hseq with
      | resting op => simp [op] at hop
      | onEntry o' i e p op item head entry active word others phase =>
        obtain rfl := Option.some.inj (op.symm.trans hop)
        exact hphase p phase
      | onRead o' op head reads none state => simp [hst] at state
      | releasing o' op step =>
        obtain rfl := Option.some.inj (op.symm.trans hop)
        simp [hs] at step

/-- The read of a read-modify-write completes: its entry goes on to RMW_WRITE (R103, R117). -/
theorem rmwReadCompleteEvent_agrees (md : Word) : Agrees (rmwReadCompleteEvent md s) := by
  obtain hev | ⟨o, v, i, e, hst, hop, hs, hk, hitem, he, hev⟩ := rmwReadCompleteEvent_cases md s <;> rw [hev]
  · exact h
  · obtain ⟨j, e', p, hitem', hhead, he', hact, hword, hothers⟩ := h.1.seq.entry_of hop (by simp [hk]) hs
    obtain rfl : i = j := by simpa [hitem] using hitem'
    obtain rfl : e = e' := by simpa [he] using he'
    refine h.enter he (by simp [Entry.isOpen, hact]) (e' := { e with state := .active .rmwWrite }) rfl rfl ?_ rfl rfl rfl rfl rfl rfl rfl
    refine .onEntry _ i _ .rmwWrite rfl hitem hhead (mb_set_same ..) rfl hword (fun k hk => ?_) ?_ rfl
    · change isActive (s.mb.set i _)[k] = false
      rw [mb_set_other _ hk.symm]
      exact hothers k hk
    · change InPhase s.msq.state _ _ _
      rw [hst]
      exact .formed _

/-- The completion of a READ item's read hands its word on and waits for the release (R118, R130, R137). -/
theorem readCompleteEvent_agrees (md : Word) : Agrees (readCompleteEvent md s) := by
  obtain hev | ⟨o, hst, hop, hs, hk, hev⟩ := readCompleteEvent_cases md s <;> rw [hev]
  · exact h
  · obtain ⟨hhead, hreads, hnone⟩ := h.1.seq.read_of hop hk hs
    have hq := eq_cons_of_head? hhead
    have hseq {t : State} (hmsq : t.msq = (completeOp s o).msq) (hmb : t.mb = s.mb) : Sequencing t := by
      refine .releasing { o with step := .release } (by rw [hmsq]; rfl) rfl (by simpa only [NoneActive, hmb] using hnone) ?_
        (by simp only [State.mcs, hmsq]; rfl)
      rw [hmsq]
      change Ended s.msq.state o.kind
      rw [hst, hk]
      exact .read
    cases hitem : o.item with
    | entry i => rw [hitem] at hreads; cases hreads
    | gather w k org =>
      rw [hitem] at hq
      exact h.dropGather hq (st := .returned md) rfl (hseq rfl rfl) rfl rfl rfl rfl rfl rfl rfl
    | prefetch w org =>
      rw [hitem] at hq
      exact h.dropPrefetch (some md) hq (hseq rfl rfl) rfl rfl rfl rfl rfl rfl rfl

/-- MRDY low in a release step (R115 to R118). -/
theorem mrdyReleaseEvent_agrees : Agrees (mrdyReleaseEvent s) := by
  obtain hev | ⟨o, w, hst, hop, hs, hk, hev⟩ | ⟨o, hop, hs, hst, hev⟩ := mrdyReleaseEvent_cases s <;> rw [hev]
  · exact h
  · refine h.move ?_ rfl rfl rfl rfl (.inl rfl) rfl rfl
    have hseq := h.1.seq
    cases hseq with
    | resting op => simp [op] at hop
    | onEntry o' i e p op item head entry active word others phase =>
      obtain rfl := Option.some.inj (op.symm.trans hop)
      rw [hst, hk, hs] at phase
      cases phase
      refine .onEntry { o' with step := .ready } i e .rmwWrite rfl item head entry active word others ?_ rfl
      change InPhase .writing o'.kind _ _
      rw [hk]
      exact .writing w
    | onRead o' op head reads none state kind =>
      obtain rfl := Option.some.inj (op.symm.trans hop)
      simp [hk] at kind
    | releasing o' op step none ended =>
      obtain rfl := Option.some.inj (op.symm.trans hop)
      rw [hst, hk] at ended
      cases ended
  · have hnone := h.1.seq.noneActive_of_release hop hs hst
    exact h.move (.resting_of hnone rfl rfl nofun nofun rfl) rfl rfl rfl rfl (.inl rfl) rfl rfl

/-! ## Timeouts, recovery and the drop -/

/-- The head item fails, whatever the MSQ then does without an operation (R120, R123). -/
theorem Agrees.fail {x : Item} {k : FaultKind} (hq : s.mq = x :: rest) (hothers : ∀ i : Fin 8, x ≠ .entry i → isActive s.mb[i] = false)
    (hseq : NoneActive (failItem s k x) → Sequencing t) (ht : t = { failItem s k x with inp := t.inp, msq := t.msq }) : Agrees t := by
  cases x with
  | entry i =>
    obtain ⟨e, he⟩ : ∃ e, s.mb[i] = some e := by
      have := (h.1.entries.head hq).1
      cases he : s.mb[i] with
      | none => simp [he] at this
      | some e => exact ⟨e, rfl⟩
    have hfail : failItem s k (.entry i) = removeHead (freeEntry (recordFault s (entryFault k e)) i) := by
      simp only [failItem, failEntryItem, he]
    rw [hfail] at hseq ht
    have hseq := hseq (noneActive_of_set (fun j hj => hothers j (by simpa using Ne.symm hj)) rfl)
    rw [ht] at hseq ⊢
    exact h.dropEntry hq hseq rfl (by rw [removeHead, recordFault, freeEntry, hq]; rfl) rfl rfl rfl rfl rfl
  | gather w j o =>
    have hseq := hseq fun i => hothers i (by simp)
    rw [ht] at hseq ⊢
    exact h.dropGather hq (st := .failed) rfl hseq rfl (congrArg List.tail hq) rfl rfl rfl rfl rfl
  | prefetch w o =>
    have hseq := hseq fun i => hothers i (by simp)
    rw [ht] at hseq ⊢
    exact h.dropPrefetch none hq hseq rfl (congrArg List.tail hq) rfl rfl rfl rfl rfl

end

/-- A first expiry ends the head item if its operation has not completed (R120). -/
theorem readyTimeoutEvent_agrees {s : State} (h : Agrees s) : Agrees (readyTimeoutEvent s) := by
  obtain hev | ⟨o, hop, -, hev⟩ := readyTimeoutEvent_cases s <;> rw [hev]
  · exact h
  · have hrest {t : State} (hnone : NoneActive t) (l : Option (Nat × Direction)) : Sequencing (msqRecover t l) :=
      .resting_of hnone rfl rfl nofun nofun rfl
    have hfails {k : FaultKind} (hk : timeoutKind s.msq.state o = some k) (hhead : s.mq.head? = some o.item)
        (hothers : ∀ i : Fin 8, o.item ≠ .entry i → isActive s.mb[i] = false) : Agrees (msqRecover (timeoutItem s o) s.msq.last) := by
      rw [timeoutItem_of_some hk]
      exact h.fail (eq_cons_of_head? hhead) hothers (fun hnone => hrest hnone _) rfl
    cases h.1.seq with
    | resting op => simp [op] at hop
    | onEntry o' i e p op item head entry active word others phase =>
      obtain rfl := Option.some.inj (op.symm.trans hop)
      have hothers : ∀ j : Fin 8, o'.item ≠ .entry j → isActive s.mb[j] = false := fun j hj =>
        others j fun hji => hj (hji ▸ item)
      obtain ⟨hst, hk, hs, -⟩ | ⟨hst, hk, hs, -⟩ | ⟨v, hst, hk, hs, -⟩ | ⟨v, hst, hk, hs, -⟩ := inPhase_iff.mp phase
      · exact hfails (k := .writeTimeout) (by simp [timeoutKind, hk, hs]) (item ▸ head) hothers
      · exact hfails (k := .rmwReadTimeout) (by simp [timeoutKind, hk]) (item ▸ head) hothers
      · exact hfails (k := .writeTimeout) (by simp [timeoutKind, hst, hk, hs]) (item ▸ head) hothers
      · exact hfails (k := .writeTimeout) (by simp [timeoutKind, hk, hs]) (item ▸ head) hothers
    | onRead o' op head reads none state kind step =>
      obtain rfl := Option.some.inj (op.symm.trans hop)
      exact hfails (k := .readTimeout) (by simp only [timeoutKind, kind, step]) head fun i _ => none i
    | releasing o' op step none ended =>
      obtain rfl := Option.some.inj (op.symm.trans hop)
      have hk : timeoutKind s.msq.state o' = .none := by
        obtain ⟨hst, hk⟩ | ⟨v, hst, hk⟩ | ⟨hst, hk⟩ := ended_iff.mp ended <;> simp [timeoutKind, hst, hk, step]
      rw [timeoutItem_of_none hk]
      exact h.move (hrest none _) rfl rfl rfl rfl (.inl rfl) rfl rfl

theorem stuckDropEvent_agrees {s : State} (h : Agrees s) : Agrees (stuckDropEvent s) := by
  obtain hev | ⟨hst, hev⟩ := stuckDropEvent_cases s <;> rw [hev]
  · exact h
  · cases hq : s.mq with
    | nil =>
      rw [dropHead_of_nil hq]
      exact h
    | cons x rest =>
      rw [dropHead_of_cons hq]
      have hnone := h.1.seq.noneActive_of (by simp [hst])
      have hmsq : (failItem s .droppedStuck x).msq = s.msq := by rw [failItem_frame]
      refine h.fail hq (fun i _ => hnone i) (fun hn => ?_) rfl
      cases h.1.seq with
      | resting op hr hw _ mcs => exact .resting (hmsq ▸ op) (hmsq ▸ hr) (hmsq ▸ hw) hn (by simpa only [State.mcs, hmsq] using mcs)
      | onEntry o i e p op item head entry active =>
        have := hnone i
        rw [entry, isActive_of_active active] at this
        cases this
      | onRead o op head reads none state => simp [hst] at state
      | releasing o op step none ended =>
        rw [hst] at ended
        cases ended

/-- An event that takes the MSQ without an operation to a state without one (R121, R122, R124). -/
theorem Agrees.rest {s t : State} (h : Agrees s) (hst : s.msq.state ≠ .reading ∧ s.msq.state ≠ .writing) (hop : t.msq.op = none)
    (hr : t.msq.state ≠ .reading) (hw : t.msq.state ≠ .writing) (hm : t.mcs = false)
    (hd : t.hld.drainMark = s.hld.drainMark ∨ t.hld.drainMark = none)
    (ht : t = { s with inp := t.inp, msq := t.msq, hld := t.hld, flog := t.flog }) : Agrees t := by
  have hnone := h.1.seq.noneActive_of hst
  refine h.move (.resting_of hnone ?_ hop hr hw hm) ?_ ?_ ?_ ?_ hd ?_ ?_ <;> rw [ht]

/-! ## The hold -/

theorem closeAllOpen_agrees {s : State} (h : Agrees s) : Agrees (closeAllOpen s) := by
  obtain ⟨hcore, hitems⟩ := closeAllOpen_keep (P := CoreWith (gatherItems s.mq)) closeEntry_coreWith ⟨h.1, rfl⟩
  exact ⟨hcore, h.2.congr hitems (by rw [closeAllOpen_frame]) (by rw [closeAllOpen_frame])⟩

/-- The marks are placed anew, no further than the queue's end (R98, R168). -/
theorem Agrees.mark {s t : State} (h : Agrees s) (hm : MarksOk t) (ht : t = { s with inp := t.inp, cmu := t.cmu, hld := t.hld }) :
    Agrees t := by
  obtain ⟨⟨one, entries, prefetch, seq, latch, ahead, -⟩, hg⟩ := h
  rw [ht] at hm ⊢
  exact ⟨⟨one, entries, prefetch, seq.congr rfl rfl rfl (fun _ => id) (sameActive_of_eq rfl), latch, ahead, hm⟩, hg.of_eq rfl rfl rfl⟩

theorem holdRequestEvent_agrees {s : State} (h : Agrees s) : Agrees (holdRequestEvent s) := by
  obtain he | ⟨-, he⟩ := holdRequestEvent_cases s <;> rw [he]
  · exact h
  · unfold takeHoldRequest
    split
    · exact h.mark ⟨h.1.marks.1, nofun⟩ rfl
    · have hclosed := closeAllOpen_agrees h
      refine hclosed.mark ⟨hclosed.1.marks.1, fun m hm => ?_⟩ rfl
      cases hm
      exact Nat.le_refl _

/-- The fall of MHOLD: a granted port has the MSQ in HELD, with no operation (R147, R148). -/
theorem mholdFalls_agrees {s : State} (h : Agrees s) (hp : PortOwned s) (mrdy : Bool) : Agrees (mholdFalls mrdy s) := by
  obtain ⟨-, he⟩ | ⟨p, -, he⟩ | ⟨p, hgranted, he⟩ := mholdFalls_cases mrdy s <;> rw [he]
  · exact h.congr rfl rfl rfl rfl rfl rfl rfl rfl
  · exact beginItemEvent_agrees (h.mark (t := { s with inp := _, hld := _ }) ⟨h.1.marks.1, nofun⟩ rfl)
  · have hheld : s.msq.state = .held := by
      have := hp.1
      simpa [Hld.isGranted, hgranted] using this.symm
    refine h.rest (by simp [hheld]) rfl ?_ ?_ rfl (.inr rfl) rfl <;> cases mrdy <;> simp

/-! ## Commands and timers -/

theorem CommandEffect.agrees {s t : State} (he : CommandEffect s t) (h : Agrees s) : Agrees t := by
  cases he with
  | none => exact h
  | region | timing | memory => exact h.congr rfl rfl rfl rfl rfl rfl rfl rfl
  | flush =>
    have hclosed := closeAllOpen_agrees h
    have hcmu : (closeAllOpen s).cmu = s.cmu := by rw [closeAllOpen_frame]
    refine hclosed.mark ⟨fun m hm => ?_, hclosed.1.marks.2⟩ rfl
    cases hm
    exact Nat.le_refl _
  | restart =>
    have hclosed := closeAllOpen_agrees h
    have hral : (closeAllOpen s).ral = s.ral := by rw [closeAllOpen_frame]
    have hcmu : (closeAllOpen s).cmu = s.cmu := by rw [closeAllOpen_frame]
    have hinvalid : Agrees { closeAllOpen s with ral := s.ral.invalidate } :=
      ⟨hclosed.1.weaker (hral ▸ s.ral.weaker_invalidate), hclosed.2.of_eq rfl rfl rfl⟩
    refine hinvalid.mark ⟨?_, hclosed.1.marks.2⟩ rfl
    have := hclosed.1.marks.1
    rwa [hcmu] at this

theorem Entry.countDown_of_not_open {e : Entry} (h : e.isOpen = false) : e.countDown = e := by
  unfold Entry.isOpen at h
  unfold Entry.countDown
  split at h
  · cases h
  all_goals simp only [*]

/-- An idle timer that counts down leaves its entry OPEN for its word (R93). -/
theorem countDownEntry_coreOk (s : State) (i : Fin 8) (h : CoreOk s) : CoreOk (countDownEntry s i) := by
  refine h.reopen (fun j => ?_) rfl
  rw [countDownEntry_mb, mb_set]
  split
  · rename_i hij
    subst hij
    cases he : s.mb[i] with
    | none => exact .inl rfl
    | some e =>
      cases ho : e.isOpen with
      | true => exact .inr ⟨e, e.countDown, rfl, rfl, ho, by simp [ho], by simp⟩
      | false => exact .inl (congrArg some (Entry.countDown_of_not_open ho))
  · exact .inl rfl

theorem tickIdleTimers_agrees {s : State} (h : Agrees s) : Agrees (tickIdleTimers s) := by
  have hcounted (l : List (Fin 8)) {u : State} (hu : CoreOk u) : CoreOk (l.foldl countDownEntry u) := by
    induction l generalizing u with
    | nil => exact hu
    | cons i l ih => exact ih (countDownEntry_coreOk u i hu)
  have hitems : gatherItems (allEight.foldl countDownEntry s).mq = gatherItems s.mq := by rw [countDownEntries_frame]
  obtain ⟨hcore, hclosed⟩ := closeEntries_keep (P := CoreWith (gatherItems s.mq)) closeEntry_coreWith (entriesWhere s Entry.expires)
    ⟨hcounted allEight h.1, hitems⟩
  exact ⟨hcore, h.2.congr hclosed (by rw [tickIdleTimers_frame]) (by rw [tickIdleTimers_frame])⟩

/-! ## The steps -/

/-- Every event keeps the agreement, where the port has its owner (R84, R108, R111, R114, R127, R129, R133). -/
theorem Event.agrees {s t : State} (he : Event s t) (h : Agrees s) (hp : PortOwned s) : Agrees t := by
  cases he with
  | placementTaken => exact takeWaitingPlacement_agrees h
  | readAnswered => exact answerRead_agrees h
  | granted => exact takeGrant_agrees h
  | restartEnded => exact endRestart_agrees h
  | requestSeen _ idle => exact seeRequest_agrees h idle
  | hreqFell => exact hreqLowEvent_agrees h
  | idleExpired i =>
    obtain ⟨hcore, hitems⟩ := expireEntry_keep (P := CoreWith (gatherItems s.mq)) closeEntry_coreWith i ⟨h.1, rfl⟩
    have hframe := (expireEntry_closesOnly i s).frame
    exact ⟨hcore, h.2.congr hitems (by rw [hframe]) (by rw [hframe])⟩
  | itemBegun => exact beginItemEvent_agrees h
  | strobeWritten => exact strobeWriteCompleteEvent_agrees h
  | rmwRead md => exact rmwReadCompleteEvent_agrees h md
  | rmwWritten => exact rmwWriteCompleteEvent_agrees h
  | wordRead md => exact readCompleteEvent_agrees h md
  | mrdyReleased => exact mrdyReleaseEvent_agrees h
  | readyTimedOut => exact readyTimeoutEvent_agrees h
  | timedOutAgain =>
    obtain he | ⟨hst, he⟩ := secondExpiryEvent_cases s <;> rw [he]
    · exact h
    · exact h.rest (by simp [hst]) rfl nofun nofun rfl (.inl rfl) rfl
  | recovered =>
    obtain he | ⟨hst, he⟩ := recoverEndEvent_cases s <;> rw [he]
    · exact h
    · exact h.rest (by simp [hst]) rfl nofun nofun rfl (.inl rfl) rfl
  | readyUnasked =>
    obtain he | he | ⟨hst, he⟩ := unsolicitedReadyEvent_cases s <;> rw [he]
    · exact h
    · exact h.congr rfl rfl rfl rfl rfl rfl rfl rfl
    · exact h.rest (by simp [hst]) rfl nofun nofun rfl (.inl rfl) rfl
  | headDropped => exact stuckDropEvent_agrees h
  | stuckEnded =>
    obtain he | ⟨hst, he⟩ := stuckEndEvent_cases s <;> rw [he]
    · exact h
    · exact h.rest (by simp [hst]) rfl nofun nofun rfl (.inl rfl) rfl
  | mholdRose => exact holdRequestEvent_agrees h
  | mholdFell mrdy => exact mholdFalls_agrees h hp mrdy
  | commandTaken u k params resp rep hk =>
    refine ((outcome_taken hk).agrees h).congr ?_ ?_ ?_ ?_ ?_ ?_ ?_ ?_ <;> cases k.alwaysTaken <;> rfl
  | idleTimersTicked => exact tickIdleTimers_agrees h
  | readyTimerCounted n =>
    refine ⟨⟨h.1.one, h.1.entries, h.1.prefetch, ?_, h.1.latch, h.1.ahead, h.1.marks⟩, h.2.of_eq rfl rfl rfl⟩
    exact h.1.seq.congr rfl rfl rfl (fun _ => id) (sameActive_of_eq rfl)
  | flushDoneSet => rw [setFlushDone_frame]; exact h.congr rfl rfl rfl rfl rfl rfl rfl rfl
  | frameBegun => rw [frameStartEvent_frame]; exact h.congr rfl rfl rfl rfl rfl rfl rfl rfl
  | bitShifted ldi => rw [shiftEdge_frame]; exact h.congr rfl rfl rfl rfl rfl rfl rfl rfl
  | requestDriven | answerEnded | frameEnded | lclkRose | commandRefused | lclkFell =>
    exact h.congr rfl rfl rfl rfl rfl rfl rfl rfl

/-- A part at its reset values has nothing that could disagree (R65, R112, R126, R133). -/
theorem queueOk_of_reset {s : State} (hmb : s.mb = Vector.replicate 8 none) (hmq : s.mq = []) (hrg : s.rg = none) (hral : s.ral = .reset)
    (hop : s.msq.op = none) (hr : s.msq.state ≠ .reading) (hw : s.msq.state ≠ .writing) (hm : s.mcs = false)
    (hf : s.cmu.flushMark = none) (hd : s.hld.drainMark = none) (hg : s.hpc.state ≠ .gathering) : QueueOk s :=
  queueOk_of_empty (fun i => by simp [hmb]) hmq hrg (by rw [hral]; rfl) (by rw [hral]; rfl) hop hr hw hm hf hd hg

/-- Settles O12: every event of a running part keeps the agreement together with the port's owner, and while RSTN is asserted, and after its
release, the part is empty. -/
theorem everyStepKeepsQueueAndLatch : Obligations.EveryStepKeepsQueueAndLatch := by
  intro s hs hreset hport t ht
  obtain ⟨hr, hev⟩ | rfl | ⟨hr, ⟨p, rfl, hp, hm⟩ | ⟨mrdy, rfl⟩ | ⟨level, rfl⟩⟩ := step_cases ht
  · have hboth : Agrees t ∧ PortOwned t :=
      hev.keep (P := fun u => Agrees u ∧ PortOwned u) (fun e hu => ⟨e.agrees hu.1 hu.2, (e.portMove).owned hu.2⟩)
        ⟨queueOk_iff.mp hs, hport hr⟩
    exact queueOk_iff.mpr hboth.1
  · exact queueOk_of_reset rfl rfl rfl rfl rfl nofun nofun (by cases h : s.inp.mhold <;> simp [State.mcs, assertReset, popped, resetPort, h])
      rfl rfl nofun
  · exact queueOk_iff.mpr (Agrees.congr (queueOk_iff.mp hs) rfl rfl rfl rfl rfl rfl rfl rfl)
  all_goals
    have h := hreset hr
    have hstate : s.hpc.state = .idle := congrArg (fun u : State => u.hpc.state) h
    have hmsq : s.msq.state = .idle := congrArg (fun u : State => u.msq.state) h
  · refine queueOk_of_reset (congrArg State.mb h) (congrArg State.mq h) (congrArg State.rg h) (congrArg State.ral h) ?_ ?_ ?_ ?_
      (congrArg (fun u : State => u.cmu.flushMark) h) ?_ (by simp [releaseReset, popped, hstate])
    all_goals cases hm : s.inp.mhold <;> simp [releaseReset, popped, hm, State.mcs, Msq.reset, Hld.reset]
  · refine queueOk_of_reset (congrArg State.mb h) (congrArg State.mq h) (congrArg State.rg h) (congrArg State.ral h)
      (congrArg (fun u : State => u.msq.op) h) (by simp [hmsq]) (by simp [hmsq]) ?_ (congrArg (fun u : State => u.cmu.flushMark) h)
      (congrArg (fun u : State => u.hld.drainMark) h) (by simp [popped, hstate])
    cases level <;> rfl

end Sys2Proof.Machine
end

-- ==== The commands at their apply points ====
section
/-! PROOFS. What each row of a link command leaves (R16 to R29, R46, R74 to R77, R153 to R155, R160 to R163): the row is its apply edge, the refusals
that come before a command's own checks, and then each command by its outcome, which is a tree of its checks in R20's order. -/

namespace Sys2Proof.Machine

/-! ## A row from its outcome -/

/-- The state after an apply point, from the outcome of a command that stores its result (R154, R155). -/
def LinkOutcome.done (s : State) (ldi : Bool) : LinkOutcome → State
  | .refused r => commandDone s ldi r
  | .taken t response report => toResult (storeResult t .ok) .ok response report

@[simp] theorem LinkOutcome.done_refused (s : State) (ldi : Bool) (r : ResultCode) :
    (LinkOutcome.refused r).done s ldi = commandDone s ldi r := rfl

@[simp] theorem LinkOutcome.done_putRegion (s : State) (ldi : Bool) (n : Fin 8) (r : Region) :
    (putRegion (driveRising s ldi) n r).done s ldi = regionWritten s ldi n r := rfl

/-- Outside RESTART a command that stores its result leaves what its outcome says (R154, R155). -/
theorem applyRow_eq_done {s : State} {k : LinkCommand} {params : List Byte} {ldi : Bool} (hq : Quiet s) (hr : s.cmu.restarting = false)
    (h : AtApply s k params ldi) (hk : k.alwaysTaken = false) :
    applyRow k ldi s = .next ((k.outcome params (driveRising s ldi)).done s ldi) := by
  have hr' : (driveRising s ldi).cmu.restarting = false := hr
  rw [applyRow_of_atApply hq h, applyCommand_of_not_restarting hr']
  split <;> rename_i ho <;> rw [ho]
  · rfl
  · simp only [hk]
    rfl

/-! ## Refusals before the command's own checks -/

theorem risingEdge_of_atApply {s : State} {k : LinkCommand} {params : List Byte} {ldi : Bool} (h : AtApply s k params ldi) :
    risingEdge ldi s = applyCommand k params (driveRising s ldi) := by
  simp only [risingEdge, show applyPoint s.cfl ldi = _ from h]

/-- An edge that delivers the eighth bit of an unlisted code is the apply point of no command (R153). -/
theorem applyPoint_of_unlisted {c : Cfl} {ldi : Bool} (hst : c.state = .command) (hb : c.bitCount = 7)
    (hc : LinkCommand.ofCode (shiftIn c.shifter ldi) = none) : applyPoint c ldi = some (none, []) := by
  simp only [applyPoint, hst, hb, hc, if_true]

theorem exec_lclkRisingEdge_of_quiet {s : State} (hq : Quiet s) (ldi : Bool) : exec (.lclkRisingEdge ldi) s = .next (risingEdge ldi s) := by
  change execLclkRisingEdge ldi s = _
  rw [execLclkRisingEdge, if_pos hq.1, takeDue_of_settled hq.2]

/-- Every command that names a region checks its number first (R20). -/
theorem outcome_of_badRegion {k : LinkCommand} {params : List Byte} (h : 7 < paramNumber params 0 1)
    (hk : k ∈ [LinkCommand.readRegion, .setWindow, .setSurface, .setMode, .setBand, .setScroll, .setCursorWindow, .setCursor,
      .revisitBegin, .revisitEnd, .enable, .disable]) (s : State) : k.outcome params s = .refused .badRegion := by
  have hbad : ¬ paramNumber params 0 1 < 8 := by omega
  simp only [List.mem_cons, List.not_mem_nil, or_false] at hk
  rcases hk with rfl | rfl | rfl | rfl | rfl | rfl | rfl | rfl | rfl | rfl | rfl | rfl <;> exact dif_neg hbad

/-- The row of a command. -/
def LinkCommand.row (ldi : Bool) : LinkCommand → Instr
  | .readStatus => .readStatus
  | .readFault => .readFault
  | .readRegion => .readRegion ldi
  | .setWindow => .setWindow ldi
  | .setSurface => .setSurface ldi
  | .setMode => .setMode ldi
  | .setBand => .setBand ldi
  | .setScroll => .setScroll ldi
  | .setCursorWindow => .setCursorWindow ldi
  | .setCursor => .setCursor ldi
  | .revisitBegin => .revisitBegin ldi
  | .revisitEnd => .revisitEnd ldi
  | .enable => .enable ldi
  | .disable => .disable ldi
  | .flush => .flush
  | .setTiming => .setTiming ldi
  | .setMemory => .setMemory ldi
  | .restart => .restart

/-- The code byte of a command (R153). -/
def LinkCommand.code : LinkCommand → Byte
  | .readStatus => 0x01#8
  | .readFault => 0x02#8
  | .readRegion => 0x03#8
  | .setWindow => 0x10#8
  | .setSurface => 0x11#8
  | .setMode => 0x12#8
  | .setBand => 0x13#8
  | .setScroll => 0x20#8
  | .setCursorWindow => 0x21#8
  | .setCursor => 0x22#8
  | .revisitBegin => 0x23#8
  | .revisitEnd => 0x24#8
  | .enable => 0x30#8
  | .disable => 0x31#8
  | .flush => 0x40#8
  | .setTiming => 0x41#8
  | .setMemory => 0x42#8
  | .restart => 0x4F#8

/-- One step down a chain of tests for a value. -/
theorem eq_or_of_ite_some {α : Type} {c : Prop} [Decidable c] {k k' : α} {x : Option α} (h : (if c then some k' else x) = some k) :
    (c ∧ k' = k) ∨ x = some k := by
  by_cases hc : c
  · rw [if_pos hc] at h
    exact .inl ⟨hc, Option.some.inj h⟩
  · rw [if_neg hc] at h
    exact .inr h

theorem LinkCommand.eq_code_of_ofCode {b : Byte} {k : LinkCommand} (h : LinkCommand.ofCode b = some k) : b = k.code := by
  unfold LinkCommand.ofCode at h
  iterate 18
    obtain ⟨hb, rfl⟩ | h := eq_or_of_ite_some h
    · exact hb
  cases h

/-- The bit shifted in is the byte's last (R152). -/
theorem getLsbD_zero_shiftIn (b : Byte) (bit : Bool) : (shiftIn b bit).getLsbD 0 = bit := by
  cases bit <;> simp [shiftIn]

/-- A command without parameters is applied with the last bit of its code, which its row need not give (R154). -/
theorem ldi_of_atApply {s : State} {k : LinkCommand} {params : List Byte} {ldi : Bool} (h : AtApply s k params ldi)
    (hk : k.paramBytes = 0) : ldi = k.code.getLsbD 0 := by
  have hp : applyPoint s.cfl ldi = some (some k, params) := h
  unfold applyPoint at hp
  split at hp
  · split at hp
    · split at hp
      · cases hp
      · rename_i hc
        split at hp <;> cases hp
        rw [← LinkCommand.eq_code_of_ofCode hc, getLsbD_zero_shiftIn]
    · split at hp
      · split at hp
        · cases hp
          omega
        · cases hp
      · cases hp
    all_goals cases hp
  · cases hp

theorem exec_row_eq_applyRow {s : State} {k : LinkCommand} {params : List Byte} {ldi : Bool} (h : AtApply s k params ldi) :
    exec (k.row ldi) s = applyRow k ldi s := by
  cases k with
  | readStatus | readFault | flush | restart =>
    rw [ldi_of_atApply h rfl]
    rfl
  | _ => rfl

/-- Settles O48: at its apply point a row and the rising edge both apply the command. -/
theorem applyPointDecidesTheCommand : Obligations.ApplyPointDecidesTheCommand := by
  intro s ldi hq
  refine ⟨fun hst hb hc => ?_, fun k params ha => ?_⟩
  · have hp := applyPoint_of_unlisted hst hb hc
    refine ⟨?_, ?_⟩
    · change execUnknownCommand ldi s = _
      rw [execUnknownCommand, running_of_quiet hq, hp]
      rfl
    · rw [exec_lclkRisingEdge_of_quiet hq, risingEdge, hp]
      rfl
  · have hrow := exec_row_eq_applyRow ha
    refine ⟨?_, fun hr hk1 hk2 => ?_, fun hr hk hbad => ?_⟩
    · rw [exec_lclkRisingEdge_of_quiet hq, risingEdge_of_atApply ha, ← applyRow_of_atApply hq ha]
      exact hrow
    · refine hrow.trans ?_
      have hk : k.alwaysTaken = false := by cases k <;> simp_all [LinkCommand.alwaysTaken]
      rw [applyRow_of_atApply hq ha, applyCommand_of_restarting (by simpa using hr) hk]
      rfl
    · exact hrow.trans (applyRow_of_refused hq hr ha (outcome_of_badRegion hbad hk _))

/-! ## The read commands -/

/-- READ_STATUS and READ_FAULT are taken in every state of the bridge (R154). -/
theorem applyCommand_of_alwaysTaken {k : LinkCommand} (hk : k.alwaysTaken = true) (params : List Byte) (s : State) :
    applyCommand k params s =
      match k.outcome params s with
      | .refused r => refuseCommand s r
      | .taken t response report => toResult (if k.alwaysTaken then t else storeResult t .ok) .ok response report :=
  if_neg (by simp [hk])

/-- Settles O49: the outcome of a read command leaves the state and carries the bytes of the record it reads. -/
theorem readCommandsReport : Obligations.ReadCommandsReport := by
  intro s params ldi hq
  refine ⟨fun ha => ?_, fun ha => ?_, fun ha hr n hn => ?_⟩
  · exact (applyRow_of_atApply hq ha).trans (congrArg _ (applyCommand_of_alwaysTaken rfl _ _))
  · exact (applyRow_of_atApply hq ha).trans (congrArg _ (applyCommand_of_alwaysTaken rfl _ _))
  · refine (applyRow_eq_done hq hr ha rfl).trans ?_
    change Host.Outcome.next ((readRegionOutcome params (driveRising s ldi)).done s ldi) = _
    rw [readRegionOutcome, withRegion_of_eq hn]
    rfl

/-- Settles O51: the last bit of the response takes the link to TRAILER, and the reported record leaves the log. -/
theorem faultReportCompletes : Obligations.FaultReportCompletes := by
  intro s reported b ldi hq hst hout hrep
  have hlast : lastResponseBit s.cfl = true := by simp [lastResponseBit, hst, hout]
  have hnone (level : Bool) : applyPoint s.cfl level = none := by simp [applyPoint, hst]
  have hedge (level : Bool) : risingEdge level s = endResponse (driveRising s level) := by
    have hl : lastResponseBit (driveRising s level).cfl = true := hlast
    rw [risingEdge, hnone]
    simp only [shiftEdge, driveRising_cfl, hst]
    exact if_pos hl
  have hlog : s.flog.complete reported =
      if reported.isSome then ⟨s.flog.records.tail, s.flog.overflow && decide (s.flog.records.tail ≠ [])⟩ else s.flog := by
    cases reported with
    | none => rfl
    | some r => by_cases ht : s.flog.records.tail = [] <;> simp [Flog.complete, ht]
  have hend (level : Bool) : endResponse (driveRising s level) =
      { s with
        inp := { s.inp with lclk := true, ldi := level }
        cfl := { s.cfl with state := .trailer, byteCount := s.cfl.byteCount + 1, bitCount := 0, shifter := 0, out := [], report := .plain }
        flog := if reported.isSome then ⟨s.flog.records.tail, s.flog.overflow && decide (s.flog.records.tail ≠ [])⟩ else s.flog } := by
    simp only [endResponse, driveRising, hrep, hlog]
    rfl
  refine ⟨?_, ?_, ?_⟩
  · change execReadFaultCompletion s = _
    simp only [execReadFaultCompletion, running_of_quiet hq, hrep, hlast, if_true]
    rw [hedge, hend]
  · rw [exec_lclkRisingEdge_of_quiet hq, hedge, hend]
  · simp [State.fltn]

/-! ## Region commands -/

/-- A tree of checks leaves what the branch taken leaves. -/
theorem LinkOutcome.done_ite (s : State) (ldi : Bool) (c : Prop) [Decidable c] (a b : LinkOutcome) :
    (if c then a else b).done s ldi = if c then a.done s ldi else b.done s ldi := apply_ite _ c a b

/-- A format code in range is its format's. -/
theorem Format.ofCode_code (f : Format) : Format.ofCode f.code = some f := by cases f <;> rfl

theorem Format.ofCode_of_gt {c : Nat} (h : ¬ c ≤ 4) : Format.ofCode c = none := by
  unfold Format.ofCode
  split <;> first | omega | rfl

theorem Access.ofCode_code (a : Access) : Access.ofCode a.code = some a := by cases a <;> rfl

theorem RasterOp.ofCode_code (op : RasterOp) : RasterOp.ofCode op.code = op := by cases op <;> rfl

/-- Two bits of a byte, as a number (R163). -/
theorem toNat_shift_and_three (a : Byte) (k : Nat) : ((a >>> k) &&& 3#8).toNat = a.toNat / 2 ^ k % 4 := by
  rw [BitVec.toNat_and, BitVec.toNat_ushiftRight, Nat.shiftRight_eq_div_pow]
  exact Nat.and_two_pow_sub_one_eq_mod _ 2

theorem shift_eq_zero_iff (a : Byte) (k : Nat) : a >>> k = 0 ↔ a.toNat / 2 ^ k = 0 := by
  rw [← BitVec.toNat_inj, BitVec.toNat_ushiftRight, Nat.shiftRight_eq_div_pow]
  rfl

/-- Mode bytes with a bit set that has no meaning, or with the fourth access code, have no mode (R163). -/
theorem modeOf_eq_none {r : Region} {a b : Byte} (h : a >>> 5 ≠ 0 ∨ (a >>> 1) &&& 3#8 = 3#8 ∨ b >>> 4 ≠ 0) : modeOf r a b = none := by
  have h5 := shift_eq_zero_iff a 5
  have h4 := shift_eq_zero_iff b 4
  unfold modeOf
  split
  · rename_i hz
    obtain h | h | h := h
    · exact absurd (h5.mpr hz.1) h
    · have h3 := toNat_shift_and_three a 1
      rw [h] at h3
      rw [show a.toNat / 2 % 4 = 3 from h3.symm]
      rfl
    · exact absurd (h4.mpr hz.2) h
  · rfl

/-- Mode bytes of an access and an op set the seven mode fields (R163). -/
theorem modeOf_of_codes (r : Region) {a b : Byte} {access : Access} {op : RasterOp} (ha : a >>> 5 = 0) (hb : b >>> 4 = 0)
    (hac : access.code = ((a >>> 1) &&& 3#8).toNat) (hop : op.code = ((a >>> 3) &&& 3#8).toNat) :
    modeOf r a b = some
      { r with
        kind := if a.getLsbD 0 then .stream else .mapped, access := access, op := op, mirrorX := b.getLsbD 0,
        mirrorY := b.getLsbD 1, scan := if b.getLsbD 2 then .columnFirst else .rowFirst, readAhead := b.getLsbD 3 } := by
  have h5 : a.toNat / 32 = 0 := (shift_eq_zero_iff a 5).mp ha
  have h4 : b.toNat / 16 = 0 := (shift_eq_zero_iff b 4).mp hb
  have hac' : Access.ofCode (a.toNat / 2 % 4) = some access := by
    rw [← Access.ofCode_code access, hac, toNat_shift_and_three]
    rfl
  have hop' : RasterOp.ofCode (a.toNat / 8 % 4) = op := by
    conv_rhs => rw [← RasterOp.ofCode_code op, hop, toNat_shift_and_three]
    rfl
  rw [modeOf, if_pos ⟨h5, h4⟩, hac', hop']
  rfl

/-- Settles O52: each of the four by its checks in R20's order. -/
theorem definitionCommandsWriteTheirFields : Obligations.DefinitionCommandsWriteTheirFields := by
  intro s params ldi n hq hr hn
  dsimp only
  refine ⟨fun ha => ?window, fun ha => ?surface, fun ha => ?mode, fun ha => ?band⟩
  case window =>
    refine (applyRow_eq_done hq hr ha rfl).trans ?_
    rw [LinkCommand.outcome, setWindowOutcome, withRegion_of_eq hn, driveRising_rt]
    simp only [LinkOutcome.done_ite, LinkOutcome.done_refused, LinkOutcome.done_putRegion]
  case surface =>
    have hrow := applyRow_eq_done hq hr ha rfl
    rw [LinkCommand.outcome, setSurfaceOutcome, withRegion_of_eq hn, driveRising_rt] at hrow
    refine ⟨fun hen => ?_, fun hen hbad => ?_, fun f hen hc hrange => ?_⟩
    · exact hrow.trans (congrArg _ (congrArg _ (if_pos hen)))
    · refine hrow.trans ?_
      simp only [hen, Bool.false_eq_true, if_false]
      by_cases hc : paramNumber params 10 1 ≤ 4
      · split
        · rfl
        · rw [if_neg (by omega)]
          rfl
      · rw [Format.ofCode_of_gt hc]
        rfl
    · refine hrow.trans ?_
      simp only [hen, Bool.false_eq_true, if_false, ← hc, Format.ofCode_code]
      rw [if_pos (by omega)]
      rfl
  case mode =>
    have hrow := applyRow_eq_done hq hr ha rfl
    rw [LinkCommand.outcome, setModeOutcome, withRegion_of_eq hn, driveRising_rt] at hrow
    refine ⟨fun hen => ?_, fun hen hbad => ?_, fun access op hen ha5 hb4 hac hop => ?_⟩
    · exact hrow.trans (congrArg _ (congrArg _ (if_pos hen)))
    · refine hrow.trans ?_
      simp only [hen, Bool.false_eq_true, if_false, modeOf_eq_none hbad]
      rfl
    · refine hrow.trans ?_
      simp only [hen, Bool.false_eq_true, if_false, modeOf_of_codes _ ha5 hb4 hac hop]
      rfl
  case band =>
    refine (applyRow_eq_done hq hr ha rfl).trans ?_
    rw [LinkCommand.outcome, setBandOutcome, withRegion_of_eq hn, driveRising_rt]
    simp only [LinkOutcome.done_ite, LinkOutcome.done_refused, LinkOutcome.done_putRegion]

theorem Region.scrollFits_eq_false {r : Region} {offset : Nat} :
    r.scrollFits offset = false ↔ ¬ (if r.bandRows = 0 then offset = 0 else offset < r.bandRows) := by
  unfold Region.scrollFits
  split <;> simp

theorem Region.cursorWindowFits_eq_false {r : Region} {x1 y1 : Nat} :
    r.cursorWindowFits x1 y1 = false ↔ ¬ (x1 < r.width ∧ y1 < r.height) := by
  simp only [Region.cursorWindowFits, ← Bool.decide_and, decide_eq_false_iff_not]

/-- Settles O53: each of the two by its checks in R20's order. -/
theorem scrollAndCursorWindowAreSet : Obligations.ScrollAndCursorWindowAreSet := by
  intro s params ldi n hq hr hn r
  refine ⟨fun ha => ?scroll, fun ha => ?window⟩
  case scroll =>
    refine (applyRow_eq_done hq hr ha rfl).trans ?_
    rw [LinkCommand.outcome, setScrollOutcome, withRegion_of_eq hn, driveRising_rt]
    simp only [LinkOutcome.done_ite, LinkOutcome.done_refused, LinkOutcome.done_putRegion, Region.scrollFits_eq_false]
    rfl
  case window =>
    refine (applyRow_eq_done hq hr ha rfl).trans ?_
    rw [LinkCommand.outcome, setCursorWindowOutcome, withRegion_of_eq hn, driveRising_rt]
    simp only [LinkOutcome.done_ite, LinkOutcome.done_refused, LinkOutcome.done_putRegion, Region.cursorWindowFits_eq_false]
    rfl

/-- Settles O55: REVISIT_BEGIN by its checks, REVISIT_END by the kind and the state of the region. -/
theorem revisitModeBeginsAndEnds : Obligations.RevisitModeBeginsAndEnds := by
  intro s params ldi n hq hr hn
  dsimp only
  refine ⟨fun ha => ?begins, fun ha => ?ends⟩
  case begins =>
    refine (applyRow_eq_done hq hr ha rfl).trans ?_
    rw [LinkCommand.outcome, revisitBeginOutcome, withRegion_of_eq hn, driveRising_rt]
    have hbad : (s.rt[n]).enabled = false ∨ (s.rt[n]).revisit = true ↔ ¬ ((s.rt[n]).enabled = true ∧ (s.rt[n]).revisit = false) := by
      simp only [not_and_or, Bool.not_eq_true, Bool.not_eq_false]
    simp only [LinkOutcome.done_ite, LinkOutcome.done_refused, LinkOutcome.done_putRegion]
    refine congrArg _ (if_congr Iff.rfl rfl ?_)
    rw [if_congr hbad rfl rfl, ite_not]
  case ends =>
    have hrow := applyRow_eq_done hq hr ha rfl
    rw [LinkCommand.outcome, revisitEndOutcome, withRegion_of_eq hn, driveRising_rt] at hrow
    have hstream (h : (s.rt[n]).kind = .stream) : (s.rt[n]).kind ≠ .mapped := by rw [h]; nofun
    refine ⟨fun hk => ?_, fun hk hst => ?_, fun m hk hen hrev hm => ?_⟩ <;> refine hrow.trans ?_
    · rw [if_pos hk]
      rfl
    · have hbad : (s.rt[n]).enabled = false ∨ (s.rt[n]).revisit = false := by
        simpa only [not_and_or, Bool.not_eq_true] using hst
      rw [if_neg (hstream hk), if_pos hbad]
      rfl
    · have hgood : ¬ ((s.rt[n]).enabled = false ∨ (s.rt[n]).revisit = false) := by
        rw [hen, hrev]
        nofun
      rw [if_neg (hstream hk), if_neg hgood, hm]
      rfl

/-- The seven checks of R25. -/
theorem Region.enableChecks_iff_spec {r : Region} {size : Nat} :
    r.enableChecks (memoryWords size) = true ↔
      (1 ≤ r.windowLength ∧ r.windowBase + 4 * r.windowLength ≤ 16777216)
        ∧ r.width ≤ r.pitch * r.format.ppw
        ∧ r.base + r.height * r.pitch ≤ 65536 * size
        ∧ (r.kind = .mapped → r.windowLength = (r.width * r.height * r.format.hostBytes + 3) / 4)
        ∧ (r.bandRows = 0 ∨ r.bandTop + r.bandRows ≤ r.height)
        ∧ (if r.bandRows = 0 then r.scroll = 0 else r.scroll < r.bandRows)
        ∧ (r.kind = .stream → (r.x1 < r.width ∧ r.y1 < r.height)
          ∧ r.x0 ≤ r.cursor.x ∧ r.cursor.x ≤ r.x1 ∧ r.y0 ≤ r.cursor.y ∧ r.cursor.y ≤ r.y1) := by
  have hkind : r.kind = .stream ∨ r.kind = .mapped := by cases r.kind <;> simp
  have h1 : r.windowFits = true ↔ 1 ≤ r.windowLength ∧ r.windowBase + 4 * r.windowLength ≤ 16777216 := by
    rw [Region.windowFits, Bool.and_eq_true]
    exact and_congr decide_eq_true_iff decide_eq_true_iff
  have h3 : r.surfaceFits (memoryWords size) = true ↔ r.base + r.height * r.pitch ≤ 65536 * size :=
    decide_eq_true_iff
  have h6 : r.scrollFits r.scroll = true ↔ if r.bandRows = 0 then r.scroll = 0 else r.scroll < r.bandRows := by
    rw [← not_iff_not, Bool.not_eq_true]
    exact Region.scrollFits_eq_false
  rw [Region.enableChecks_iff, h1, h3, h6]
  simp only [Region.rowFits, Region.windowMatches, Region.bandFits, Region.cursorFits, Region.cursorWindowFits, Bool.or_eq_true,
    Bool.and_eq_true, decide_eq_true_eq, Region.inCursorWindow_iff]
  rcases hkind with hk | hk <;> simp [hk]

/-- Settles O56: ENABLE by R25's checks, DISABLE by the state of the region. -/
theorem regionsAreEnabledAndDisabled : Obligations.RegionsAreEnabledAndDisabled := by
  intro s params ldi n hq hr hn
  dsimp only
  rw [← Region.enableChecks_iff_spec (r := s.rt[n]) (size := s.cmu.settings.memorySize)]
  refine ⟨fun ha => ?enable, fun ha => ?disable⟩
  case enable =>
    have hrow := applyRow_eq_done hq hr ha rfl
    rw [LinkCommand.outcome, enableOutcome, withRegion_of_eq hn, driveRising_rt, driveRising_cmu] at hrow
    refine ⟨fun hen => ?_, fun hen hbad => ?_, fun hen hok => ?_⟩ <;> refine hrow.trans ?_
    · rw [if_pos hen]
      rfl
    · rw [if_neg (Bool.eq_false_iff.mp hen), if_neg hbad]
      rfl
    · rw [if_neg (Bool.eq_false_iff.mp hen), if_pos hok]
      rfl
  case disable =>
    refine (applyRow_eq_done hq hr ha rfl).trans ?_
    rw [LinkCommand.outcome, disableOutcome, withRegion_of_eq hn, driveRising_rt]
    simp only [LinkOutcome.done_ite, LinkOutcome.done_putRegion]
    rfl

end Sys2Proof.Machine
end

-- ==== FLUSH and RESTART ====
section
/-! PROOFS. FLUSH and RESTART at their apply points, FLUSH_DONE, and the end of RESTART with the request that it takes (R34, R51, R52, R54, R92, R97,
R99, R111, R139, R168 to R170). -/

namespace Sys2Proof.Machine

/-! ## FLUSH -/

/-- Every OPEN entry closes in opened order, whatever the pins (R97 to R99). -/
theorem closedAll_of_closeAllOpen (s : State) (ldi : Bool) {u : State} (hmb : u.mb = (closeAllOpen (driveRising s ldi)).mb)
    (hmq : u.mq = (closeAllOpen (driveRising s ldi)).mq) : ClosedAll s u :=
  (closeAllOpen_closedAll (driveRising s ldi)).congr rfl rfl hmb hmq

/-- Settles O59: the command's outcome closes the entries and places the mark, and FLUSH_DONE is its own row. -/
theorem flushMarksTheQueue : Obligations.FlushMarksTheQueue := by
  intro s params
  refine ⟨fun hq hr ha => ?_, fun hr hdone hmark => ?_⟩
  · have hframe := closeAllOpen_frame (driveRising s false)
    have hlen : decide ((closeAllOpen (driveRising s false)).mq.length = 0) = decide ((closeAllOpen (driveRising s false)).mq = []) :=
      decide_eq_decide.mpr List.length_eq_zero_iff
    refine ⟨{ s with
      mb := (closeAllOpen (driveRising s false)).mb
      mq := (closeAllOpen (driveRising s false)).mq
      cmu := { s.cmu with
        flushMark := some (closeAllOpen (driveRising s false)).mq.length
        flushDone := decide ((closeAllOpen (driveRising s false)).mq = []) } }, closedAll_of_closeAllOpen s false rfl rfl, rfl, ?_⟩
    refine (applyRow_eq_done hq hr ha rfl).trans ?_
    rw [LinkCommand.outcome, flushOutcome, ← hlen]
    dsimp only
    rw [hframe]
    rfl
  · have hdue : flushDoneDue s = true := by simp [flushDoneDue, hdone, hmark]
    change execFlushDone s = _
    rw [execFlushDone, if_pos ⟨hr, hdue⟩, setFlushDone, if_pos hdue]

/-! ## RESTART -/

/-- After the end of RESTART no region is ENABLED, so the default aperture alone claims (R30, R34, R164). -/
theorem claimantOf_of_reset {s : State} (hrt : s.rt = Vector.replicate 8 .reset) (hset : s.cmu.settings = .reset) (address : Nat) :
    claimantOf s address = if address + 3 < 2097152 then some .pass else none := by
  have hnone : allEight.find? (covers s address) = none := by
    refine List.find?_eq_none.mpr fun n _ => ?_
    simp [covers, hrt, Region.reset]
  rw [claimantOf, hnone]
  simp only [inAperture, hset]
  by_cases h : address + 3 < 2097152
  · rw [if_pos h]
    exact if_pos (decide_eq_true h)
  · rw [if_neg h]
    exact if_neg fun h' => h (of_decide_eq_true h')

/-- Going to work overwrites the state of the HPC, so it does not matter where it was (R53, R60 to R62). -/
theorem startAccess_of_state (s : State) (st : HpcState) (a : AccessRecord) (o : Origin) (f : Format) :
    startAccess { s with hpc := { s.hpc with state := st } } a o f = startAccess s a o f := by
  unfold startAccess
  split
  · split <;> rfl
  · rfl

/-- A request that the aperture claims goes to work on its bytes (R53, R59). -/
theorem takeRequest_of_pass {s : State} (hl : s.inp.lines.hlane ≠ 0) (hc : claimantOf s (4 * s.inp.lines.ha.toNat) = some .pass) :
    takeRequest s =
      startAccess s
        { claimRecord s.inp.lines (some .pass) none with
          list := passList s.inp.lines.hwr (4 * s.inp.lines.ha.toNat) s.inp.lines.hlane s.inp.lines.hwd } .pass .p8 := by
  simp only [takeRequest, if_neg hl, hc]

theorem restartEndDue_iff {s : State} :
    restartEndDue s = true ↔ s.cmu.restarting = true ∧ (∀ i : Fin 8, s.mb[i] = none) ∧ s.mq = [] ∧ s.hpc.state ≠ .placing
      ∧ s.hpc.state ≠ .gathering := by
  simp [restartEndDue, allFree, accessInFlight, and_assoc]

/-- Settles O60: the outcome of RESTART, and its end by what waits at the host port. -/
theorem restartBeginsAndEnds : Obligations.RestartBeginsAndEnds := by
  refine ⟨fun s params hq hr ha => ?_, fun s hr hre hfree hmq hpl hga => ?_⟩
  · have hframe := closeAllOpen_frame (driveRising s true)
    refine ⟨{ s with
      mb := (closeAllOpen (driveRising s true)).mb
      mq := (closeAllOpen (driveRising s true)).mq
      ral := ⟨none, s.ral.prefetch.map fun q => ⟨q.word, true⟩⟩
      cmu := { s.cmu with restarting := true } }, closedAll_of_closeAllOpen s true rfl rfl, rfl, ?_⟩
    refine (applyRow_eq_done hq hr ha rfl).trans ?_
    rw [LinkCommand.outcome, restartOutcome, hframe]
    rfl
  · have hdue : restartEndDue s = true := restartEndDue_iff.mpr ⟨hre, hfree, hmq, hpl, hga⟩
    have hrow : exec .restartEnd s = .next (endRestart s) := if_pos ⟨hr, hdue⟩
    have hend : endRestart s = if s.hpc.state = .deferred then takeRequest (restartReset s) else restartReset s := if_pos hdue
    have hclaim := claimantOf_of_reset (s := restartReset s) rfl rfl (4 * s.inp.lines.ha.toNat)
    refine ⟨fun hd => ?_, fun hd hreq hl => ?_, fun x hd hreq hl hin => ?_, fun hd hreq hl hout => ?_⟩
    · rw [hrow, hend, if_neg hd]
      rfl
    · rw [hrow, hend, if_pos hd, takeRequest]
      refine (congrArg _ (if_pos hl)).trans ?_
      rw [answer_of_hreq (by exact hreq)]
      rfl
    · intro v hqv
      have hpass : claimantOf (restartReset s) (4 * s.inp.lines.ha.toNat) = some .pass := hclaim.trans (if_pos hin)
      have hseen : requestSeen v ⟨s.inp.lines.hwr, s.inp.lines.ha, s.inp.lines.hlane, s.inp.lines.hwd⟩ = v := by
        change { v with inp := { s.inp with hreq := true, lines := s.inp.lines } } = v
        rw [← hreq]
      have hreset : restartReset s = { v with hpc := { v.hpc with state := .deferred } } := by
        change restartReset s = { restartReset s with hpc := ⟨.deferred, x, false, false, 0⟩ }
        rw [← hd]
        rfl
      refine ⟨hpass, ?_⟩
      rw [exec_hostRequest_of_idle hqv rfl, hseen, seeRequest_of_not_restarting rfl, hrow, hend, if_pos (by rw [hd])]
      rw [takeRequest_of_pass (s := v) hl hpass, takeRequest_of_pass (s := restartReset s) hl hpass, hreset]
      exact congrArg _ (startAccess_of_state v .deferred _ _ _)
    · have hnone : claimantOf (restartReset s) (4 * s.inp.lines.ha.toNat) = none := hclaim.trans (if_neg (Nat.not_lt.mpr hout))
      rw [hrow, hend, if_pos hd, takeRequest_of_unclaimed (s := restartReset s) hl hnone, refuseAccess_of_hreq (s := restartReset s) hreq]
      rfl

end Sys2Proof.Machine
end

-- ==== Frames of the configuration link ====
section
/-! PROOFS. The frame and its edges (R151 to R154, R156 to R158): what each edge of LCLK does in each frame state, that the bits of a frame bring its
command to its apply point, and that the result and the response appear on LDO bit by bit. -/

open Sys2Proof Sys2Proof.Machine

namespace Sys2Proof.Machine

/-! ## Edges that apply nothing -/

theorem applyPoint_of_bitCount {c : Cfl} (h : c.bitCount ≠ 7) (ldi : Bool) : applyPoint c ldi = none := if_neg h

theorem applyPoint_of_state {c : Cfl} (h : c.state ≠ .command ∧ c.state ≠ .parameters) (ldi : Bool) : applyPoint c ldi = none := by
  unfold applyPoint
  split
  · split <;> simp_all
  · rfl

theorem applyPoint_of_command {c : Cfl} {ldi : Bool} {k : LinkCommand} (hst : c.state = .command)
    (hc : LinkCommand.ofCode (shiftIn c.shifter ldi) = some k) (hk : k.paramBytes ≠ 0) : applyPoint c ldi = none := by
  simp only [applyPoint, hst, hc, hk, if_false, ite_self]

theorem applyPoint_of_parameters {c : Cfl} {ldi : Bool} {k : LinkCommand} (hst : c.state = .parameters) (hc : c.code = some k)
    (hk : k.paramBytes ≠ c.params.length + 1) : applyPoint c ldi = none := by
  simp only [applyPoint, hst, hc, hk, if_false, ite_self]

/-- An edge that is no apply point shifts (R151 to R153). -/
theorem exec_lclkRisingEdge_of_shift {s : State} {ldi : Bool} (hq : Quiet s) (h : applyPoint s.cfl ldi = none) :
    exec (.lclkRisingEdge ldi) s = .next (shiftEdge ldi (driveRising s ldi)) := by
  rw [exec_lclkRisingEdge_of_quiet hq, risingEdge, h]

theorem exec_lclkFallingEdge_of_quiet {s : State} (hq : Quiet s) : exec .lclkFallingEdge s = .next (fallingEdge s) := by
  change execLclkFallingEdge s = _
  rw [execLclkFallingEdge, if_pos hq.1, takeDue_of_settled hq.2]

/-- What the link shifts while a command or its parameter bytes are coming in, before the eighth bit (R152). -/
theorem shiftEdge_of_sampling {s : State} (hst : s.cfl.state = .command ∨ s.cfl.state = .parameters) (hb : s.cfl.bitCount ≠ 7) (ldi : Bool) :
    shiftEdge ldi s = { s with cfl := s.cfl.sample ldi } := by
  rcases hst with hst | hst <;> simp only [shiftEdge, hst, if_neg hb]

/-- A completed byte in the frame state held leaves that state (R152). -/
theorem Cfl.nextByte_self {c : Cfl} {st : FrameState} (h : c.state = st) :
    c.nextByte st = { c with byteCount := c.byteCount + 1, bitCount := 0, shifter := 0 } := by
  subst h
  rfl

theorem shiftEdge_of_commandByte {s : State} (hst : s.cfl.state = .command) (hb : s.cfl.bitCount = 7) (ldi : Bool) :
    shiftEdge ldi s =
      { s with cfl := { s.cfl.nextByte .parameters with code := LinkCommand.ofCode (shiftIn s.cfl.shifter ldi), params := [] } } := by
  simp only [shiftEdge, hst, if_pos hb]

theorem shiftEdge_of_parameterByte {s : State} (hst : s.cfl.state = .parameters) (hb : s.cfl.bitCount = 7) (ldi : Bool) :
    shiftEdge ldi s =
      { s with cfl := { s.cfl.nextByte .parameters with params := s.cfl.params ++ [shiftIn s.cfl.shifter ldi] } } := by
  simp only [shiftEdge, hst, if_pos hb]

theorem shiftEdge_of_trailer {s : State} (hst : s.cfl.state = .trailer) (ldi : Bool) :
    shiftEdge ldi s = { s with cfl := if s.cfl.bitCount = 7 then s.cfl.nextByte .trailer else s.cfl.nextBit } := by
  simp only [shiftEdge, hst]
  split <;> rfl

theorem shiftEdge_of_idle {s : State} (hst : s.cfl.state = .idle ∨ s.cfl.state = .waitDeselect) (ldi : Bool) : shiftEdge ldi s = s := by
  rcases hst with hst | hst <;> simp only [shiftEdge, hst]

/-- What it shifts out, before the last bit of a response (R151, R156). -/
theorem shiftEdge_of_result {s : State} (hst : s.cfl.state = .result) (ldi : Bool) :
    shiftEdge ldi s =
      if s.cfl.bitCount = 7 then
        { s with cfl := { s.cfl.nextByte (if s.cfl.out.tail = [] then .trailer else .response) with out := s.cfl.out.tail } }
      else { s with cfl := { s.cfl.nextBit with out := s.cfl.out.tail } } := by
  simp only [shiftEdge, hst]

theorem shiftEdge_of_response {s : State} (hst : s.cfl.state = .response) (hlen : s.cfl.out.length ≠ 1) (ldi : Bool) :
    shiftEdge ldi s =
      if s.cfl.bitCount = 7 then { s with cfl := { s.cfl.nextByte .response with out := s.cfl.out.tail } }
      else { s with cfl := { s.cfl.nextBit with out := s.cfl.out.tail } } := by
  have hl : lastResponseBit s.cfl = false := by simp [lastResponseBit, hlen]
  simp only [shiftEdge, hst, hl, Bool.false_eq_true, if_false]

theorem shiftEdge_of_lastBit {s : State} (hst : s.cfl.state = .response) (hlen : s.cfl.out.length = 1) (ldi : Bool) :
    shiftEdge ldi s = endResponse s := by
  have hl : lastResponseBit s.cfl = true := by simp [lastResponseBit, hst, hlen]
  simp only [shiftEdge, hst, hl, if_true]

/-- Settles O45: the two ends of a frame, and each edge by the frame state and the bit it is. -/
theorem frameLinesAndEdges : Obligations.FrameLinesAndEdges := by
  intro s ldi hq
  have hstart : exec .frameStart s = .next (frameStartEvent s) := by
    change execFrameStart s = _
    rw [execFrameStart, if_pos hq.1, takeDue_of_settled hq.2]
  have hrise := exec_lclkRisingEdge_of_shift (ldi := ldi) hq
  refine ⟨fun hst => ?_, fun hst => ?_, ?_, fun hb hst => ?_, fun hb hst => ?_, fun hst => ?_, fun hb => ⟨fun k hst hc hk => ?_,
    fun k hst hc hk => ?_, fun hst => ?_, fun hst hlen => ?_⟩, fun hst hlen hrep => ?_, fun hst => ?_, ?_⟩
  · rw [hstart, frameStartEvent, if_pos hst]
    rfl
  · rw [hstart, frameStartEvent, if_neg hst]
  · change execFrameEnd s = _
    rw [execFrameEnd, if_pos hq.1, takeDue_of_settled hq.2, frameEndEvent]
    have habandoned : abandoned s.cfl = true ↔ s.cfl.state = .parameters ∨ (s.cfl.state = .command ∧ s.cfl.bitCount ≠ 0) := by
      simp [abandoned]
    rw [if_congr habandoned rfl rfl]
    rfl
  · rw [hrise (applyPoint_of_bitCount (by omega) ldi), shiftEdge_of_sampling (by exact hst) (by exact (by omega : s.cfl.bitCount ≠ 7))]
    rfl
  · have hnone := applyPoint_of_bitCount (c := s.cfl) (by omega) ldi
    have hb7 : ¬ (driveRising s ldi).cfl.bitCount = 7 := by rw [driveRising_cfl]; omega
    rw [hrise hnone]
    obtain hst | ⟨hst, hlen⟩ := hst
    · rw [shiftEdge_of_result (by exact hst), if_neg hb7]
      rfl
    · rw [shiftEdge_of_response (by exact hst) (by exact hlen), if_neg hb7]
      rfl
  · rw [hrise (applyPoint_of_state (by simp [hst]) ldi), shiftEdge_of_trailer (by exact hst), Cfl.nextByte_self (by exact hst)]
    rfl
  · rw [hrise (applyPoint_of_command hst hc hk), shiftEdge_of_commandByte (by exact hst) (by exact hb), ← hc]
    rfl
  · rw [hrise (applyPoint_of_parameters hst hc hk), shiftEdge_of_parameterByte (by exact hst) (by exact hb), Cfl.nextByte_self (by exact hst)]
    rfl
  · rw [hrise (applyPoint_of_state (by simp [hst]) ldi), shiftEdge_of_result (by exact hst), if_pos (by exact hb)]
    have hmore : (if s.cfl.out.tail = [] then FrameState.trailer else .response) = if 1 < s.cfl.out.length then .response else .trailer := by
      have htail : s.cfl.out.tail = [] ↔ ¬ 1 < s.cfl.out.length := by
        rw [← List.length_eq_zero_iff, List.length_tail]
        omega
      rw [if_congr htail rfl rfl, ite_not]
    rw [← hmore]
    rfl
  · rw [hrise (applyPoint_of_state (by simp [hst]) ldi), shiftEdge_of_response (by exact hst) (by exact hlen), if_pos (by exact hb),
      Cfl.nextByte_self (by exact hst)]
    rfl
  · rw [hrise (applyPoint_of_state (by simp [hst]) ldi), shiftEdge_of_lastBit (by exact hst) (by exact hlen), endResponse]
    simp only [driveRising_cfl, driveRising_flog, hrep]
    rw [← hrep]
    rfl
  · rw [hrise (applyPoint_of_state (by rcases hst with hst | hst <;> simp [hst]) ldi), shiftEdge_of_idle (by exact hst)]
    rfl
  · rw [exec_lclkFallingEdge_of_quiet hq]
    cases hst : s.cfl.state <;> simp only [fallingEdge, ldoAfterFall, hst]

/-! ## Bits coming in -/

/-- Commands one after another: a list after another list. -/
theorem execAll_append {s t : State} {l m : List Instr} (h : execAll s l = .next t) : execAll s (l ++ m) = execAll t m := by
  induction l generalizing s with
  | nil =>
    cases h
    rfl
  | cons c l ih =>
    rw [execAll] at h
    rw [List.cons_append, execAll]
    split at h
    · exact ih h
    · cases h
    · cases h

theorem execAll_cons {s t : State} {c : Instr} {l : List Instr} (h : exec c s = .next t) : execAll s (c :: l) = execAll t l := by
  rw [execAll, h]

/-- A rising edge with each bit and a falling edge after it. -/
def clocked (l : List Bool) : List Instr := l.flatMap fun b => [.lclkRisingEdge b, .lclkFallingEdge]

theorem bitEdges_dropLast (l : List Bool) : (bitEdges l).dropLast = clocked l.dropLast := by
  induction l with
  | nil => rfl
  | cons b l ih =>
    cases l with
    | nil => rfl
    | cons c l =>
      have hne : bitEdges (c :: l) ≠ [] := by cases l <;> nofun
      rw [bitEdges, List.dropLast_cons_of_ne_nil (by nofun), List.dropLast_cons_of_ne_nil hne, ih]
      rfl

/-- The part inside a frame: the link and its pins alone differ from the part that began the frame (R151, R152). -/
def inFrame (s : State) (lclk ldi : Bool) (c : Cfl) : State :=
  { s with inp := { s.inp with lsel := false, lclk := lclk, ldi := ldi }, cfl := c }

theorem quiet_inFrame {s : State} (hq : Quiet s) (lclk ldi : Bool) (c : Cfl) : Quiet (inFrame s lclk ldi c) := hq

/-- The CFL while a command or its parameters are coming in: LDO is driven 0 and nothing is shifted out (R152). -/
abbrev Cfl.incoming (st : FrameState) (bytes bits : Nat) (shifter : Byte) (code : Option LinkCommand) (params : List Byte) : Cfl :=
  ⟨st, bytes, bits, shifter, code, params, [], .plain, some false⟩

/-- Bits of one byte before its eighth (R152). -/
theorem execAll_clocked_bits {s : State} (hq : Quiet s) {st : FrameState} (hst : st = .command ∨ st = .parameters) {l : List Bool}
    {bytes bits : Nat} {sh : Byte} {code : Option LinkCommand} {params : List Byte} (hl : bits + l.length ≤ 7) (hne : l ≠ []) (x y : Bool) :
    ∃ z, execAll (inFrame s x y (.incoming st bytes bits sh code params)) (clocked l)
      = .next (inFrame s false z (.incoming st bytes (bits + l.length) (l.foldl shiftIn sh) code params)) := by
  induction l generalizing bits sh x y with
  | nil => exact absurd rfl hne
  | cons b l ih =>
    have hb : bits ≠ 7 := by simp at hl; omega
    have hrise : exec (.lclkRisingEdge b) (inFrame s x y (.incoming st bytes bits sh code params))
        = .next (inFrame s true b (.incoming st bytes (bits + 1) (shiftIn sh b) code params)) := by
      rw [exec_lclkRisingEdge_of_shift (quiet_inFrame hq ..) (applyPoint_of_bitCount hb b), shiftEdge_of_sampling hst hb]
      rfl
    have hfall : exec .lclkFallingEdge (inFrame s true b (.incoming st bytes (bits + 1) (shiftIn sh b) code params))
        = .next (inFrame s false b (.incoming st bytes (bits + 1) (shiftIn sh b) code params)) := by
      rw [exec_lclkFallingEdge_of_quiet (quiet_inFrame hq ..)]
      rcases hst with rfl | rfl <;> rfl
    have hfirst {m : List Instr} : execAll (inFrame s x y (.incoming st bytes bits sh code params)) (.lclkRisingEdge b :: .lclkFallingEdge :: m)
        = execAll (inFrame s false b (.incoming st bytes (bits + 1) (shiftIn sh b) code params)) m := by
      rw [execAll_cons hrise, execAll_cons hfall]
    cases l with
    | nil => exact ⟨b, hfirst⟩
    | cons c l =>
      obtain ⟨z, hz⟩ := ih (bits := bits + 1) (sh := shiftIn sh b) (by simp at hl ⊢; omega) (by simp) false b
      refine ⟨z, hfirst.trans (hz.trans ?_)⟩
      rw [List.length_cons (a := b), Nat.add_right_comm]
      rfl

/-! ## Bytes coming in -/

/-- The eight bits of a byte, shifted in most significant first, give the byte (R152). -/
theorem shiftIn_bitsOf (b : Byte) : shiftIn ((bitsOf b).dropLast.foldl shiftIn 0) (b.getLsbD 0) = b := by
  revert b
  decide

theorem bitsOf_eq_concat (b : Byte) : bitsOf b = (bitsOf b).dropLast ++ [b.getLsbD 0] := rfl

theorem clocked_append (l m : List Bool) : clocked (l ++ m) = clocked l ++ clocked m := List.flatMap_append

/-- A byte whose eighth bit applies nothing takes the link where that bit takes it (R152). -/
theorem execAll_clocked_byte {s : State} (hq : Quiet s) {st : FrameState} (hst : st = .command ∨ st = .parameters) {bytes : Nat} {b : Byte}
    {code : Option LinkCommand} {params : List Byte} {c : Cfl} (hc : c.state = .command ∨ c.state = .parameters) (hldo : c.ldo = some false)
    (hnone : applyPoint (.incoming st bytes 7 ((bitsOf b).dropLast.foldl shiftIn 0) code params) (b.getLsbD 0) = none)
    (hshift : ∀ x y, shiftEdge (b.getLsbD 0)
      (driveRising (inFrame s x y (.incoming st bytes 7 ((bitsOf b).dropLast.foldl shiftIn 0) code params)) (b.getLsbD 0))
        = inFrame s true (b.getLsbD 0) c) (x y : Bool) :
    ∃ z, execAll (inFrame s x y (.incoming st bytes 0 0 code params)) (clocked (bitsOf b)) = .next (inFrame s false z c) := by
  obtain ⟨z, hz⟩ := execAll_clocked_bits (l := (bitsOf b).dropLast) (bits := 0) (sh := 0) (bytes := bytes) (code := code) (params := params)
    hq hst (Nat.le_refl 7) nofun x y
  have hfall : exec .lclkFallingEdge (inFrame s true (b.getLsbD 0) c) = .next (inFrame s false (b.getLsbD 0) c) := by
    rw [exec_lclkFallingEdge_of_quiet (quiet_inFrame hq ..), fallingEdge]
    have hkeep : ldoAfterFall c = c.ldo := by
      rw [hldo, ldoAfterFall]
      rcases hc with hc | hc <;> rw [hc]
    change Host.Outcome.next (inFrame s false (b.getLsbD 0) { c with ldo := ldoAfterFall c }) = _
    rw [hkeep]
  refine ⟨b.getLsbD 0, ?_⟩
  rw [bitsOf_eq_concat, clocked_append, execAll_append hz]
  exact (execAll_cons ((exec_lclkRisingEdge_of_shift (quiet_inFrame hq ..) hnone).trans (congrArg _ (hshift false z)))).trans
    (execAll_cons hfall)

/-- Parameter bytes bring the link to the apply point of their command (R153, R154). -/
theorem execAll_parameters {s : State} (hq : Quiet s) {k : LinkCommand} (rest : List Byte) {read : List Byte} {bytes : Nat} (hne : rest ≠ [])
    (hlen : read.length + rest.length = k.paramBytes) (x y : Bool) :
    ∃ z c, execAll (inFrame s x y (.incoming .parameters bytes 0 0 (some k) read)) (clocked (rest.flatMap bitsOf).dropLast)
        = .next (inFrame s false z c)
      ∧ applyPoint c ((rest.flatMap bitsOf).getLastD false) = some (some k, read ++ rest) := by
  induction rest generalizing read bytes x y with
  | nil => exact absurd rfl hne
  | cons b rest ih =>
    cases rest with
    | nil =>
      obtain ⟨z, hz⟩ := execAll_clocked_bits (l := (bitsOf b).dropLast) (bits := 0) (sh := 0) (bytes := bytes) (code := some k)
        (params := read) hq (.inr rfl) (Nat.le_refl 7) nofun x y
      refine ⟨z, _, hz, ?_⟩
      change applyPoint (.incoming .parameters bytes 7 ((bitsOf b).dropLast.foldl shiftIn 0) (some k) read) (b.getLsbD 0) = _
      simp only [applyPoint, if_true, shiftIn_bitsOf]
      exact if_pos hlen.symm
    | cons d rest =>
      have hfew : k.paramBytes ≠ read.length + 1 := by simp at hlen; omega
      obtain ⟨z, hz⟩ := execAll_clocked_byte hq (.inr rfl) (bytes := bytes) (b := b) (code := some k) (params := read)
        (c := .incoming .parameters (bytes + 1) 0 0 (some k) (read ++ [b])) (.inr rfl) rfl (applyPoint_of_parameters rfl rfl hfew)
        (fun x y => by
          rw [shiftEdge_of_parameterByte rfl rfl]
          exact congrArg (fun p => inFrame s true (b.getLsbD 0) (.incoming .parameters (bytes + 1) 0 0 (some k) (read ++ [p])))
            (shiftIn_bitsOf b)) x y
      obtain ⟨z', c, hc, hap⟩ := ih (read := read ++ [b]) (bytes := bytes + 1) nofun (by simp at hlen ⊢; omega) false z
      have hne' : (d :: rest).flatMap bitsOf ≠ [] := nofun
      refine ⟨z', c, ?_, ?_⟩
      · rw [List.flatMap_cons, List.dropLast_append_of_ne_nil hne', clocked_append, execAll_append hz, hc]
      · rw [List.flatMap_cons, List.getLastD_eq_getLast?, List.getLast?_append_of_ne_nil _ hne', ← List.getLastD_eq_getLast?, hap]
        simp

/-- Settles O46: the frame begins in COMMAND, its code byte comes in, and then its parameter bytes. -/
theorem frameDeliversItsCommand : Obligations.FrameDeliversItsCommand := by
  intro s k code params hq hst hcode hlen
  have hstart : exec .frameStart s = .next (inFrame s s.inp.lclk s.inp.ldi (.incoming .command 0 0 0 none [])) :=
    (frameLinesAndEdges s false hq).1 hst
  rw [execAll_cons hstart, bitEdges_dropLast]
  suffices h : ∃ z c, execAll (inFrame s s.inp.lclk s.inp.ldi (.incoming .command 0 0 0 none []))
      (clocked ((code :: params).flatMap bitsOf).dropLast) = .next (inFrame s false z c)
        ∧ applyPoint c (((code :: params).flatMap bitsOf).getLastD false) = some (some k, params) by
    obtain ⟨z, c, hrun, hap⟩ := h
    exact ⟨_, hrun, hap, rfl⟩
  cases params with
  | nil =>
    obtain ⟨z, hz⟩ := execAll_clocked_bits (l := (bitsOf code).dropLast) (bits := 0) (sh := 0) (bytes := 0) (code := none)
      (params := []) hq (.inl rfl) (Nat.le_refl 7) nofun s.inp.lclk s.inp.ldi
    refine ⟨z, _, hz, ?_⟩
    change applyPoint (.incoming .command 0 7 ((bitsOf code).dropLast.foldl shiftIn 0) none []) (code.getLsbD 0) = _
    simp only [applyPoint, if_true, shiftIn_bitsOf, hcode]
    exact if_pos hlen.symm
  | cons b rest =>
    have hpar : k.paramBytes ≠ 0 := by rw [← hlen]; nofun
    obtain ⟨z, hz⟩ := execAll_clocked_byte hq (.inl rfl) (bytes := 0) (b := code) (code := none) (params := [])
      (c := .incoming .parameters 1 0 0 (some k) []) (.inr rfl) rfl
      (applyPoint_of_command rfl (by rw [shiftIn_bitsOf]; exact hcode) hpar)
      (fun x y => by
        rw [shiftEdge_of_commandByte rfl rfl]
        exact congrArg (fun p => inFrame s true (code.getLsbD 0) (.incoming .parameters 1 0 0 p []))
          ((congrArg LinkCommand.ofCode (shiftIn_bitsOf code)).trans hcode)) s.inp.lclk s.inp.ldi
    obtain ⟨z', c, hc, hap⟩ := execAll_parameters hq (b :: rest) (read := []) (bytes := 1) nofun (by simpa using hlen) false z
    have hne : (b :: rest).flatMap bitsOf ≠ [] := nofun
    refine ⟨z', c, ?_, ?_⟩
    · rw [List.flatMap_cons, List.dropLast_append_of_ne_nil hne, clocked_append, execAll_append hz, hc]
    · rw [List.flatMap_cons, List.getLastD_eq_getLast?, List.getLast?_append_of_ne_nil _ hne, ← List.getLastD_eq_getLast?, hap]
      rfl

/-! ## Bits going out -/

/-- While bits are still to come after this one, an edge shifts this one out and the link stays in RESULT or RESPONSE (R151, R156). -/
theorem shiftEdge_of_outgoing {s : State} (hst : s.cfl.state = .result ∨ s.cfl.state = .response) (hlen : 1 < s.cfl.out.length) (ldi : Bool) :
    ∃ c, shiftEdge ldi s = { s with cfl := c } ∧ (c.state = .result ∨ c.state = .response) ∧ c.out = s.cfl.out.tail := by
  have htail : s.cfl.out.tail ≠ [] := fun h => by
    have := congrArg List.length h
    simp at this
    omega
  rcases hst with hst | hst
  · rw [shiftEdge_of_result hst, if_neg htail]
    split
    · exact ⟨_, rfl, .inr rfl, rfl⟩
    · exact ⟨_, rfl, .inl hst, rfl⟩
  · rw [shiftEdge_of_response hst (by omega)]
    split
    · exact ⟨_, rfl, .inr rfl, rfl⟩
    · exact ⟨_, rfl, .inr hst, rfl⟩

/-- The falling edge that drives the next bit (R152, R156). -/
def nextBitDriven (s : State) : State :=
  { s with inp := { s.inp with lclk := false }, cfl := { s.cfl with ldo := some (s.cfl.out.headD false) } }

theorem exec_lclkFallingEdge_of_outgoing {s : State} (hq : Quiet s) (hst : s.cfl.state = .result ∨ s.cfl.state = .response) :
    exec .lclkFallingEdge s = .next (nextBitDriven s) := by
  rw [exec_lclkFallingEdge_of_quiet hq, fallingEdge, ldoAfterFall]
  rcases hst with hst | hst <;> rw [hst] <;> rfl

/-- In RESULT and RESPONSE each falling edge drives the next bit (R152, R156). -/
theorem execAll_outgoing (ldis : List Bool) {s : State} (hq : Quiet s) (hst : s.cfl.state = .result ∨ s.cfl.state = .response)
    (hlen : ldis.length < s.cfl.out.length) :
    ∃ t, execAll s (ldis.flatMap (fun b => [Instr.lclkFallingEdge, .lclkRisingEdge b]) ++ [.lclkFallingEdge]) = .next t
      ∧ t.cfl.ldo = s.cfl.out[ldis.length]? := by
  induction ldis generalizing s with
  | nil =>
    refine ⟨_, execAll_cons (exec_lclkFallingEdge_of_outgoing hq hst), ?_⟩
    cases hout : s.cfl.out with
    | nil => simp [hout] at hlen
    | cons b l => simp [nextBitDriven, hout]
  | cons b ldis ih =>
    have hlen' : ldis.length + 1 < s.cfl.out.length := hlen
    obtain ⟨c, hc, hcst, hcout⟩ := shiftEdge_of_outgoing (s := driveRising (nextBitDriven s) b) hst (by change 1 < s.cfl.out.length; omega) b
    have hrise : exec (.lclkRisingEdge b) (nextBitDriven s) = .next { driveRising (nextBitDriven s) b with cfl := c } := by
      have hout : s.cfl.state ≠ .command ∧ s.cfl.state ≠ .parameters := by rcases hst with hst | hst <;> simp [hst]
      have hnone : applyPoint (nextBitDriven s).cfl b = none := applyPoint_of_state hout b
      exact (exec_lclkRisingEdge_of_shift (s := nextBitDriven s) hq hnone).trans (congrArg _ hc)
    have hcout' : c.out = s.cfl.out.tail := hcout
    obtain ⟨t, ht, hldo⟩ := ih (s := { driveRising (nextBitDriven s) b with cfl := c }) hq hcst (by
      change ldis.length < c.out.length
      rw [hcout', List.length_tail]
      omega)
    refine ⟨t, ?_, ?_⟩
    · rw [List.flatMap_cons, List.append_assoc]
      exact (execAll_cons (exec_lclkFallingEdge_of_outgoing hq hst)).trans ((execAll_cons hrise).trans ht)
    · rw [hldo]
      change c.out[ldis.length]? = _
      rw [hcout', List.getElem?_tail]
      rfl

/-- Settles O47: from the first bit of the result on, each falling edge drives the next bit. -/
theorem responseBitsAreDrivenInOrder : Obligations.ResponseBitsAreDrivenInOrder := by
  intro s ldis m hq hst _ _ hlen
  exact execAll_outgoing ldis hq (.inl hst) hlen

end Sys2Proof.Machine
end

-- ==== The rows of the sequencer ====
section
/-! PROOFS. The rows of the memory sequencer (R101 to R104, R110, R111, R114 to R125): how the head item is begun, the completions, the release, the
two expiries by row and by count, the drop in STUCK, and what each leaves as it was. -/

open Sys2Proof Sys2Proof.Machine

namespace Sys2Proof.Machine

/-! ## Permission and phase -/

theorem headPermitted_iff {s : State} : headPermitted s = true ↔ HeadAllowed s := by
  unfold headPermitted HeadAllowed
  split <;> simp_all

/-- On a quiet state the row is its own event (log entry 2). -/
theorem next_running_of_quiet {s : State} (hq : Quiet s) (own : State → State) :
    (Host.Outcome.next (running own s) : Host.Outcome State Fault Refusal) = .next (own s) := by rw [running_of_quiet hq]

/-- No byte is PARTIAL (R5). -/
theorem byteAligned_iff {f : Format} {coverage : BitVec 16} : byteAligned f coverage = true ↔ ∀ b, byteClass f coverage b ≠ .partly := by
  simp only [byteAligned, Bool.and_eq_true, decide_eq_true_eq]
  exact ⟨fun h b => by cases b <;> simp [h], fun h => ⟨h .low, h .high⟩⟩

theorem beginItemEvent_of_may {s : State} (h : s.msq.state = .idle ∧ s.inp.mrdy = false ∧ HeadAllowed s) :
    beginItemEvent s = beginHead s := if_pos (mayBegin_iff.mpr ⟨h.1, h.2.1, headPermitted_iff.mpr h.2.2⟩)

theorem beginItemEvent_of_not {s : State} (h : ¬ (s.msq.state = .idle ∧ s.inp.mrdy = false ∧ HeadAllowed s)) : beginItemEvent s = s :=
  if_neg fun hm => h (by rwa [mayBegin_iff, headPermitted_iff] at hm)

theorem beginHead_of_nil {s : State} (h : s.mq = []) : beginHead s = s := by simp only [beginHead, h]

/-- Settles O38: the head item decides what begins. -/
theorem headItemIsBegun : Obligations.HeadItemIsBegun := by
  intro s hq
  have hrow : exec .beginItem s = .next (beginItemEvent s) := next_running_of_quiet hq _
  refine ⟨fun hmay i rest e hmq he => ?_, fun hmay w k o rest hmq => ?_, fun hmay w o rest hmq => ?_, fun h => ?_⟩
  · rw [hrow, beginItemEvent_of_may hmay]
    refine ⟨fun hstrobe => ?_, fun hstrobe => ?_⟩
    · have hphase : phaseAtActive e.format e.op e.coverage = .strobeWrite := if_pos ⟨hstrobe.1, byteAligned_iff.mpr hstrobe.2⟩
      have hbegin : beginHead s = beginStrobeWrite s i e := by simp only [beginHead, hmq, he, hphase]
      rw [hbegin]
      rfl
    · have hphase : phaseAtActive e.format e.op e.coverage = .rmwRead := if_neg fun h => hstrobe ⟨h.1, byteAligned_iff.mp h.2⟩
      have hbegin : beginHead s = beginRmw s i e := by simp only [beginHead, hmq, he, hphase]
      rw [hbegin]
      rfl
  · have hbegin : beginHead s = beginRead s (.gather w k o) w := by simp only [beginHead, hmq]
    rw [hrow, beginItemEvent_of_may hmay, hbegin]
    rfl
  · have hbegin : beginHead s = beginRead s (.prefetch w o) w := by simp only [beginHead, hmq]
    rw [hrow, beginItemEvent_of_may hmay, hbegin]
    rfl
  · rw [hrow]
    by_cases hmay : s.msq.state = .idle ∧ s.inp.mrdy = false ∧ HeadAllowed s
    · rw [beginItemEvent_of_may hmay, beginHead_of_nil (h.resolve_left (not_not_intro hmay))]
    · rw [beginItemEvent_of_not hmay]

/-! ## Completions -/

theorem opIn_of {s : State} {o : Operation} {st : MsqState} {step : OpStep} (hst : s.msq.state = st) (hop : s.msq.op = some o)
    (hstep : o.step = step) : opIn s st step = some o := opIn_eq_some.mpr ⟨hst, hop, hstep⟩

/-- A QUEUED word slot of a record is resolved in its place, with the pixel slots that wait for it (R130). -/
theorem Gather.resolve_eq {g : Gather} {k w : Nat} (h : g.words[k]? = some ⟨w, .queued⟩) (st : WordState) :
    g.resolve k st =
      { g with
        words := g.words.set k ⟨w, st⟩
        pixels := g.pixels.map (PixelSlot.resolve k (if st = .failed then .failed else .done)) } := by
  unfold Gather.resolve
  rw [List.modify_eq_set_getElem?, h]
  rfl

theorem PixelSlot.resolve_eq (k : Nat) (st : SlotState) :
    PixelSlot.resolve k st = fun y =>
      match y with
      | .pixel lane word slot index .wait => .pixel lane word slot index (if index = k then st else .wait)
      | other => other := by
  funext y
  cases y with
  | tail => rfl
  | pixel lane word slot index old => cases old <;> simp [PixelSlot.resolve]

/-- Settles O39: each completion by the operation it ends. -/
theorem memoryOperationCompletes : Obligations.MemoryOperationCompletes := by
  refine ⟨fun s i rest w e md hq hmq he => ⟨fun hst hop => ?_, fun v hst hop => ?_, fun hst hop => ?_⟩,
    fun s md w o x rest hq hst hop hmq => ?_⟩
  · refine (next_running_of_quiet hq strobeWriteCompleteEvent).trans ?_
    rw [strobeWriteCompleteEvent, opIn_of hst hop rfl]
    simp only [writeCompletes, endEntryItem, removeHead, freeEntry, completeOp, hmq]
    rfl
  · refine (next_running_of_quiet hq rmwWriteCompleteEvent).trans ?_
    rw [rmwWriteCompleteEvent, opIn_of hst hop rfl]
    simp only [writeCompletes, endEntryItem, removeHead, freeEntry, completeOp, hmq]
    rfl
  · refine (next_running_of_quiet hq (rmwReadCompleteEvent md)).trans ?_
    rw [rmwReadCompleteEvent, opIn_of hst hop rfl]
    simp only [he]
    rfl
  · have hrow : exec (.readComplete md) s = .next (readCompleteEvent md s) := next_running_of_quiet hq _
    rw [hrow, readCompleteEvent, opIn_of hst hop rfl]
    refine ⟨fun k g hx hg hw => ?_, fun p hx hp => ?_⟩
    · subst hx
      simp only [deliverRead, resolveGather, removeHead, completeOp, sampleMd, hmq, hg, Option.map_some, Gather.resolve_eq hw,
        PixelSlot.resolve_eq]
      rfl
    · subst hx
      simp only [deliverRead, removeHead, completeOp, sampleMd, hmq, Ral.prefetchEnds, hp]
      cases p.dropped <;> rfl

/-- Settles O40: the release step of a read-modify-write's read goes on, any other ends. -/
theorem releaseReturnsToIdleOrWrites : Obligations.ReleaseReturnsToIdleOrWrites := by
  intro s x w kind hq hop
  have hrow : exec .mrdyRelease s = .next (mrdyReleaseEvent s) := next_running_of_quiet hq _
  refine ⟨fun v hst hk => ?_, fun h => ?_⟩
  · subst hk
    rw [hrow, mrdyReleaseEvent, opIn_of hst hop rfl]
    rfl
  · rw [hrow, mrdyReleaseEvent]
    obtain hst | ⟨hst, hk⟩ := h
    · have hnone : opIn s .reading .release = none := if_neg (by simp [hst])
      rw [hnone, opIn_of hst hop rfl]
      rfl
    · subst hk
      rw [opIn_of hst hop rfl]
      rfl

/-! ## The head item fails -/

/-- An entry that fails becomes FREE, with its fault in the log, and its item leaves (R104, R110, R120, R123). -/
theorem failItem_entry {s : State} {i : Fin 8} {rest : List Item} {e : Entry} (hmq : s.mq = .entry i :: rest) (he : s.mb[i] = some e)
    (k : FaultKind) :
    failItem s k (.entry i) =
      { s with
        mb := s.mb.set i none
        mq := rest
        flog := logged s.flog ⟨k, some e.origin, .write, none, some e.word, none⟩
        cmu := { s.cmu with flushMark := lowered s.cmu.flushMark }
        hld := { s.hld with drainMark := lowered s.hld.drainMark } } := by
  rw [← Flog.store_eq_logged]
  simp only [failItem, failEntryItem, he, removeHead, freeEntry, recordFault, hmq]
  rfl

/-- A gather READ that fails fails its word and the pixels that wait for it (R120, R123, R130). -/
theorem failItem_gather {s : State} {w k : Nat} {o : Origin} {rest : List Item} {g : Gather} (hmq : s.mq = .gather w k o :: rest)
    (hg : s.rg = some g) (f : FaultKind) :
    failItem s f (.gather w k o) =
      { s with
        mq := rest
        rg := some (g.resolve k .failed)
        flog := logged s.flog ⟨f, some o, .read, none, some w, some .gather⟩
        cmu := { s.cmu with flushMark := lowered s.cmu.flushMark }
        hld := { s.hld with drainMark := lowered s.hld.drainMark } } := by
  rw [← Flog.store_eq_logged]
  simp only [failItem, failReadItem, failRead, resolveGather, removeHead, recordFault, hmq, hg]
  rfl

/-- A prefetch that fails leaves no latch and no marker (R120, R123, R137). -/
theorem failItem_prefetch {s : State} {w : Nat} {o : Origin} {rest : List Item} (hmq : s.mq = .prefetch w o :: rest)
    (hp : s.ral.prefetch.isSome = true) (f : FaultKind) :
    failItem s f (.prefetch w o) =
      { s with
        mq := rest
        ral := ⟨none, none⟩
        flog := logged s.flog ⟨f, some o, .read, none, some w, some .prefetch⟩
        cmu := { s.cmu with flushMark := lowered s.cmu.flushMark }
        hld := { s.hld with drainMark := lowered s.hld.drainMark } } := by
  obtain ⟨p, hp⟩ := Option.isSome_iff_exists.mp hp
  rw [← Flog.store_eq_logged]
  simp only [failItem, failReadItem, failRead, Ral.prefetchEnds, removeHead, recordFault, hmq, hp]
  rfl

/-! ## A CLK period's timers -/

theorem step_of_no_command {s : State} (h : s.pending = []) : step s = .next (clockTick s) := by simp only [step, h]

/-- Lines that are low already stay as they are (R48). -/
theorem endAnswer_of_hdone_low {s : State} (h : s.hpc.hdone = false) (hl : HostLinesOk s) : endAnswer s = s := by
  obtain ⟨herr, hrd⟩ := hl.1 h
  have hsame : { s.hpc with hdone := false, herr := false, hrd := 0 } = s.hpc := by
    cases hc : s.hpc
    simp_all
  exact congrArg (fun x => { s with hpc := x }) hsame

theorem Entry.countDown_of_not_counting {e : Entry} (h : e.isCounting = false) : e.countDown = e := by
  unfold Entry.isCounting at h
  unfold Entry.countDown
  split <;> simp_all

theorem Entry.isCounting_of_expires {e : Entry} (h : e.expires = true) : e.isCounting = true := by
  unfold Entry.expires at h
  unfold Entry.isCounting
  split at h <;> simp_all

/-- Where no idle timer counts a CLK period leaves the entries alone (R93). -/
theorem tickIdleTimers_of_noneCounting {s : State} (h : NoneCounting s) : tickIdleTimers s = s := by
  have hone (i : Fin 8) : countDownEntry s i = s := by
    have hmap : (s.mb[i]).map Entry.countDown = s.mb[i] := by
      cases he : s.mb[i] with
      | none => rfl
      | some e => exact congrArg some (Entry.countDown_of_not_counting (h i e he))
    rw [countDownEntry, hmap]
    simp
  have hfold (l : List (Fin 8)) : l.foldl countDownEntry s = s := by
    induction l with
    | nil => rfl
    | cons i l ih => rw [List.foldl_cons, hone, ih]
  have hnone : entriesWhere s Entry.expires = [] := entriesWhere_eq_nil fun i e he =>
    Bool.eq_false_iff.mpr fun hexp => by simpa [h i e he] using Entry.isCounting_of_expires hexp
  rw [tickIdleTimers, hfold, hnone]
  rfl

theorem tickReadyTimer_of_first {s : State} {n : Nat} (h : s.msq.timer = some n) (hn : ¬ 1 < n)
    (hst : s.msq.state = .reading ∨ s.msq.state = .writing) : tickReadyTimer s = readyTimeoutEvent s := by
  obtain hst | hst := hst <;> simp only [tickReadyTimer, h, if_neg hn, hst]

theorem tickReadyTimer_of_second {s : State} {n : Nat} (h : s.msq.timer = some n) (hn : ¬ 1 < n) (hst : s.msq.state = .recover) :
    tickReadyTimer s = secondExpiryEvent s := by
  simp only [tickReadyTimer, h, if_neg hn, hst]

/-- With no answer to end and no idle timer that counts, a CLK period is the MSQ's turn and the host port's. -/
theorem clockTick_of_still {s : State} (hq : Quiet s) (hdone : s.hpc.hdone = false) (hl : HostLinesOk s) (hc : NoneCounting s) :
    clockTick s = hostActs (tickSequencer s) := by
  rw [clockTick_of_quiet hq, endAnswer_of_hdone_low hdone hl, tickIdleTimers_of_noneCounting hc]

/-- A request is taken without a change of the MSQ unless a grant is due before it (R145). -/
theorem hostActs_msq {s : State} (h : s.msq.state ≠ .idle ∧ s.msq.state ≠ .stuck) : (hostActs s).msq = s.msq := by
  have hgrant (u : State) (hu : u.msq = s.msq) : (takeGrant u).msq = s.msq := by
    obtain hg | ⟨p, -, hst, -⟩ := takeGrant_cases u
    · rw [hg, hu]
    · rw [hu] at hst
      exact absurd hst (by simpa using h)
  have hdue : (takeDue s).msq = s.msq := by
    rw [takeDue, endRestart_frame]
    refine hgrant _ ?_
    rw [setFlushDone_frame, answerRead_frame, takeWaitingPlacement_frame]
  unfold hostActs
  split
  · rw [seeRequest_frame, hdue]
  · rfl

/-- The MSQ has its turn in a CLK period that begins quiet after the idle timers and the answer's lines have moved, and nothing else. -/
theorem clockTick_turn {s : State} (hq : Quiet s) :
    ∃ u : State, u.msq = s.msq ∧ u.cmu = s.cmu ∧ u.inp = s.inp ∧ u.hpc.state = s.hpc.state ∧ clockTick s = hostActs (tickSequencer u) := by
  refine ⟨tickIdleTimers (endAnswer s), ?_, ?_, ?_, ?_, clockTick_of_quiet hq⟩ <;> rw [tickIdleTimers_frame] <;> rfl

/-! ## A first expiry -/

theorem readyTimeoutEvent_of {s : State} {o : Operation} (hst : s.msq.state = .reading ∨ s.msq.state = .writing) (hop : s.msq.op = some o) :
    readyTimeoutEvent s = msqRecover (timeoutItem s o) s.msq.last := by
  simp only [readyTimeoutEvent, hop, if_pos hst]

/-- The MSQ after a first expiry, whatever becomes of the item (R120). -/
theorem readyTimeoutEvent_msq {s : State} {o : Operation} (hst : s.msq.state = .reading ∨ s.msq.state = .writing) (hop : s.msq.op = some o) :
    (readyTimeoutEvent s).msq = ⟨.recover, none, some s.cmu.settings.readyTimeout, s.msq.last, s.msq.last, .deselected⟩ := by
  rw [readyTimeoutEvent_of hst hop, timeoutItem_frame]
  rfl

/-- Settles O41: the row is the head item's end by R120's table and the entry to RECOVER, and an armed timer that runs out is the row. -/
theorem firstExpiryEndsTheOperation : Obligations.FirstExpiryEndsTheOperation := by
  intro s x rest w kind st hq hst hop recovering ended entryFault
  have hrow : exec .readyTimeout s = .next (msqRecover (timeoutItem s ⟨x, w, kind, st⟩) s.msq.last) :=
    (next_running_of_quiet hq readyTimeoutEvent).trans (congrArg _ (readyTimeoutEvent_of hst hop))
  have hfails {f : FaultKind} (hf : timeoutKind s.msq.state ⟨x, w, kind, st⟩ = some f) :
      exec .readyTimeout s = .next (msqRecover (failItem s f x) s.msq.last) := by
    rw [hrow, timeoutItem_of_some hf]
  refine ⟨fun i e f hf hx hmq he => ?entry, fun k o g hk hs hx hmq hg hw => ?gather, fun o hk hs hx hmq hp => ?prefetch, fun hs hk => ?ended,
    fun n hpend ht => ⟨?period, fun hn hreq hdone hl hc => ?runsOut⟩⟩
  case entry =>
    have hkind : timeoutKind s.msq.state ⟨x, w, kind, st⟩ = some f := by
      dsimp only [entryFault] at hf
      split at hf <;> simp_all [timeoutKind]
    subst hx
    rw [hfails hkind, failItem_entry hmq he]
    rfl
  case gather =>
    subst hk hs hx
    rw [hfails rfl, failItem_gather hmq hg, Gather.resolve_eq hw, PixelSlot.resolve_eq]
    rfl
  case prefetch =>
    subst hk hs hx
    rw [hfails rfl, failItem_prefetch hmq hp]
    rfl
  case ended =>
    have hkind : timeoutKind s.msq.state ⟨x, w, kind, st⟩ = none := by
      subst hs
      obtain rfl | rfl | ⟨hwr, v, rfl⟩ := hk
      · rfl
      · rfl
      · simp [timeoutKind, hwr]
    rw [hrow, timeoutItem_of_none hkind]
    rfl
  case period =>
    obtain ⟨u, hmsq, hcmu, -, -, htick⟩ := clockTick_turn hq
    rw [← hmsq] at hst hop ht
    refine ⟨_, step_of_no_command hpend, ?_⟩
    rw [htick, tickSequencer_of_armed ht]
    split
    · rw [tickReadyTimer_of_counting ht ‹_›, hostActs_msq (by obtain h | h := hst <;> simp [h]), hmsq]
    · have hexpired := readyTimeoutEvent_msq hst hop
      rw [tickReadyTimer_of_first ht ‹_› hst, hostActs_msq (by rw [hexpired]; simp), hexpired, hmsq, hcmu]
  case runsOut =>
    rw [step_of_no_command hpend, clockTick_of_still hq hdone hl hc, tickSequencer_of_armed ht, tickReadyTimer_of_first ht (by omega) hst,
      hostActs_of_no_request (.inl (by rw [readyTimeoutEvent_frame]; exact hreq))]
    exact (next_running_of_quiet hq readyTimeoutEvent).symm

/-! ## RECOVER and STUCK -/

theorem secondExpiryEvent_of {s : State} (hst : s.msq.state = .recover) :
    secondExpiryEvent s =
      { s with
        msq := ⟨.stuck, none, none, s.msq.last, none, .deselected⟩
        flog := logged s.flog (stuckFault s.msq.stuckOf) } := by
  rw [secondExpiryEvent, if_pos hst, ← Flog.store_eq_logged]
  rfl

/-- Settles O42: each row in RECOVER is its event, an armed timer that runs out there is the second expiry, and MRDY high without an operation
is one case of the MSQ's state each. -/
theorem recoverEndsInIdleOrStuck : Obligations.RecoverEndsInIdleOrStuck := by
  intro s hq
  have hsecond : exec .secondExpiry s = .next (secondExpiryEvent s) := next_running_of_quiet hq _
  have hready : exec .unsolicitedReady s = .next (unsolicitedReadyEvent s) := next_running_of_quiet hq _
  refine ⟨fun hst => ⟨?recoverEnd, ?second, fun n hpend ht => ⟨fun hreq => ?period, fun hn hreq hdone hl hc => ?runsOut⟩⟩,
    fun hst => ?idle, fun hst => ?level, fun hst => ?operation⟩
  case recoverEnd =>
    refine (next_running_of_quiet hq recoverEndEvent).trans ?_
    rw [recoverEndEvent, if_pos hst]
    rfl
  case second =>
    rw [hsecond, secondExpiryEvent_of hst]
    cases s.msq.stuckOf <;> rfl
  case period =>
    obtain ⟨u, hmsq, -, hinp, hhpc, htick⟩ := clockTick_turn hq
    rw [← hmsq] at hst ht
    rw [← hinp, ← hhpc] at hreq
    refine ⟨_, step_of_no_command hpend, ?_⟩
    rw [htick, tickSequencer_of_armed ht]
    split
    · rw [tickReadyTimer_of_counting ht ‹_›, hostActs_of_no_request (by exact hreq), hmsq]
    · rw [tickReadyTimer_of_second ht ‹_› hst, secondExpiryEvent_of hst, hostActs_of_no_request (by exact hreq), hmsq]
  case runsOut =>
    rw [step_of_no_command hpend, clockTick_of_still hq hdone hl hc, tickSequencer_of_armed ht, tickReadyTimer_of_second ht (by omega) hst,
      hostActs_of_no_request (.inl (by rw [secondExpiryEvent_frame]; exact hreq)), hsecond]
  case idle =>
    rw [hready, unsolicitedReadyEvent]
    simp only [hst]
    rfl
  case level =>
    rw [hready, unsolicitedReadyEvent]
    obtain hst | hst | hst := hst <;> simp only [hst] <;> rfl
  case operation =>
    rw [hready, unsolicitedReadyEvent]
    obtain hst | hst := hst <;> simp only [hst]

/-- Settles O43: the end of STUCK is one event, and a drop is the failure of the head item when the HLD permits it. -/
theorem stuckDropsTheHeadItem : Obligations.StuckDropsTheHeadItem := by
  intro s x rest hq hst ended
  have hrow : exec .stuckDrop s = .next (stuckDropEvent s) := next_running_of_quiet hq _
  refine ⟨?ends, fun hnot => ?kept, fun hallowed hmq => ?dropped⟩
  case ends =>
    refine (next_running_of_quiet hq stuckEndEvent).trans ?_
    rw [stuckEndEvent, if_pos hst]
    rfl
  case kept =>
    rw [hrow, stuckDropEvent, if_neg fun h => hnot (headPermitted_iff.mp h.2)]
  case dropped =>
    have hdrop : exec .stuckDrop s = .next (failItem s .droppedStuck x) := by
      rw [hrow, stuckDropEvent, if_pos ⟨hst, headPermitted_iff.mpr hallowed⟩, dropHead_of_cons hmq]
    refine ⟨fun i e hx he => ?_, fun w k o g hx hg hw => ?_, fun w o hx hp => ?_⟩ <;> subst hx <;> rw [hdrop]
    · rw [failItem_entry hmq he]
    · rw [failItem_gather hmq hg, Gather.resolve_eq hw, PixelSlot.resolve_eq]
      rfl
    · rw [failItem_prefetch hmq hp]

/-! ## The hold -/

/-- What is due does not depend on a hold that has gone (R147). -/
theorem quiet_of_withdrawn {s : State} (hq : Quiet s) : Quiet { s with inp := { s.inp with mhold := false }, hld := ⟨.none, none⟩ } := by
  refine ⟨hq.1, ?_⟩
  have hs := hq.2
  simp only [settled, Bool.and_eq_true] at hs ⊢
  obtain ⟨⟨⟨⟨hplace, hread⟩, hflush⟩, -⟩, hend⟩ := hs
  exact ⟨⟨⟨⟨hplace, hread⟩, hflush⟩, rfl⟩, hend⟩

theorem grantDue_of {s : State} {p : HoldPolicy} (hp : s.hld.state = .pending p) (hst : s.msq.state = .idle ∨ s.msq.state = .stuck)
    (hd : p = .drainFirst → s.hld.drainMark = some 0) : grantDue s = some p := by
  have hfree : portFree s = true := by simpa [portFree] using hst
  cases p with
  | immediate => simp only [grantDue, hp, hfree, if_true]
  | drainFirst => simp [grantDue, hp, hfree, hd]

/-- Settles O44: the rise of MHOLD, the grant, the withdrawal and the release, each by its event. -/
theorem portIsRequestedGrantedAndReleased : Obligations.PortIsRequestedGrantedAndReleased := by
  refine ⟨fun s hq hnone => ?request, fun s p mrdy hr => ⟨fun hp hst hd => ?grant, fun hq hp => ?withdraw, fun hq hp => ?release⟩⟩
  case request =>
    have hrow : exec .holdRequest s = .next (takeHoldRequest s) := by
      refine (next_running_of_quiet hq holdRequestEvent).trans ?_
      simp only [holdRequestEvent, hnone]
    refine ⟨fun hi => ?_, fun hd => ?_⟩
    · rw [hrow]
      simp only [takeHoldRequest, hi]
    · refine ⟨takeHoldRequest s, hrow, ?_, ?_⟩
      · simp only [takeHoldRequest, hd]
        exact (closeAllOpen_closedAll s).congr rfl rfl rfl rfl
      · simp only [takeHoldRequest, hd]
        rw [closeAllOpen_frame]
  case grant =>
    have hdue := grantDue_of hp hst hd
    refine ⟨takeGrant s, if_pos ⟨hr, by rw [hdue]; rfl⟩, ?_, ?_⟩ <;> simp only [takeGrant, hdue]
    · rfl
    · simp [State.mhlda, grantPort, hr]
  case withdraw =>
    intro withdrawn
    have hrow : exec .holdWithdraw s = .next (beginItemEvent withdrawn) := by
      refine (next_running_of_quiet hq fun u => mholdFalls u.inp.mrdy u).trans ?_
      simp only [mholdFalls, hp]
      rfl
    refine ⟨fun h => ?_, fun hi hm => ⟨.inl rfl, ?_⟩⟩
    · rw [hrow]
      by_cases hmay : withdrawn.msq.state = .idle ∧ withdrawn.inp.mrdy = false ∧ HeadAllowed withdrawn
      · obtain h | h | h := h
        · exact absurd hmay.1 h
        · exact absurd (hmay.2.1.symm.trans h) (by simp)
        · rw [beginItemEvent_of_may hmay, beginHead_of_nil (s := withdrawn) h]
      · rw [beginItemEvent_of_not hmay]
    · rw [hrow]
      exact (next_running_of_quiet (quiet_of_withdrawn hq) beginItemEvent).symm
  case release =>
    refine ⟨mholdFalls mrdy s, next_running_of_quiet hq _, ?_⟩
    obtain ⟨h, -⟩ | ⟨q, h, -⟩ | ⟨q, -, hev⟩ := mholdFalls_cases mrdy s
    · simp [h] at hp
    · simp [h] at hp
    · rw [hev]
      exact ⟨rfl, by simp [State.mhlda, hq.1]⟩

end Sys2Proof.Machine
end

-- ==== Words by slots ====
section
/-! PROOFS. A word read and written slot by slot (R4, R9): each bit belongs to one slot, so a word is known by its slots; what a raster operation,
a merge and a strobe write do to a word then is what they do to each slot (R5, R9, R10, R86, R101, R102). -/

namespace Sys2Proof.Machine

/-! ## Bits and slots -/

theorem Format.bits_pos (f : Format) : 0 < f.bits := by cases f <;> decide

/-- A word is its slots (R2). -/
theorem Format.ppw_mul_bits (f : Format) : f.ppw * f.bits = 16 := by cases f <;> rfl

theorem Format.bits_le (f : Format) : f.bits ≤ 16 := by cases f <;> decide

theorem Format.getLsbD_maxValue (f : Format) (i : Nat) : f.maxValue.getLsbD i = decide (i < f.bits) := by
  have hbits := f.bits_le
  rw [Format.maxValue, BitVec.getLsbD_ofNat, Nat.testBit_two_pow_sub_one]
  by_cases hi : i < f.bits
  · simp [hi, show i < 16 by omega]
  · simp [hi]

/-- The last bit of a slot of the format lies in the word. -/
theorem slot_end_le {f : Format} {k : Nat} (hk : k < f.ppw) : k * f.bits + f.bits ≤ 16 := by
  calc k * f.bits + f.bits = (k + 1) * f.bits := by ring
    _ ≤ f.ppw * f.bits := Nat.mul_le_mul_right _ hk
    _ = 16 := f.ppw_mul_bits

/-- Bit i of a slot's value is bit i of the slot (R4). -/
theorem getLsbD_slotValue (f : Format) (w : Word) (k i : Nat) :
    (slotValue f w k).getLsbD i = (decide (i < f.bits) && w.getLsbD (k * f.bits + i)) := by
  rw [slotValue, BitVec.getLsbD_and, BitVec.getLsbD_ushiftRight, Format.getLsbD_maxValue, Bool.and_comm]

/-- A word with one slot written keeps every bit outside that slot (R4). -/
theorem getLsbD_withSlot (f : Format) (w v : Word) (k i : Nat) (hi : i < 16) :
    (withSlot f w k v).getLsbD i =
      if k * f.bits ≤ i ∧ i < k * f.bits + f.bits then v.getLsbD (i - k * f.bits) else w.getLsbD i := by
  simp only [withSlot, slotMask, BitVec.getLsbD_or, BitVec.getLsbD_and, BitVec.getLsbD_not, BitVec.getLsbD_shiftLeft,
    Format.getLsbD_maxValue, hi, decide_true, Bool.true_and]
  by_cases hlow : i < k * f.bits
  · rw [if_neg (by omega)]
    simp [hlow]
  · by_cases hhigh : i < k * f.bits + f.bits
    · rw [if_pos (by omega)]
      simp [hlow, show i - k * f.bits < f.bits by omega]
    · rw [if_neg (by omega)]
      simp [hlow, show ¬ i - k * f.bits < f.bits by omega]

/-- Slots of one word do not overlap: a slot written reads back, and every other reads as before (R4). -/
theorem slotValue_withSlot {f : Format} {k j : Nat} (hj : j < f.ppw) (w v : Word) :
    slotValue f (withSlot f w k v) j = if j = k then v &&& f.maxValue else slotValue f w j := by
  have hend := slot_end_le hj
  refine BitVec.eq_of_getLsbD_eq fun i hi => ?_
  rw [getLsbD_slotValue]
  by_cases hb : i < f.bits
  · rw [getLsbD_withSlot f w v k _ (by omega)]
    by_cases hjk : j = k
    · subst hjk
      rw [if_pos rfl, if_pos (by omega), BitVec.getLsbD_and, Format.getLsbD_maxValue]
      simp [hb]
    · rw [if_neg hjk, getLsbD_slotValue, if_neg]
      rintro ⟨hle, hlt⟩
      obtain h | h := Nat.lt_or_gt_of_ne hjk
      · have := Nat.mul_le_mul_right f.bits (show j + 1 ≤ k from h)
        have : (j + 1) * f.bits = j * f.bits + f.bits := by ring
        omega
      · have := Nat.mul_le_mul_right f.bits (show k + 1 ≤ j from h)
        have : (k + 1) * f.bits = k * f.bits + f.bits := by ring
        omega
  · split <;> simp [hb, getLsbD_slotValue, Format.getLsbD_maxValue]

/-- A bit of a word is a bit of the slot it lies in (R4). -/
theorem getLsbD_eq_slotValue (f : Format) (w : Word) (i : Nat) :
    w.getLsbD i = (slotValue f w (i / f.bits)).getLsbD (i % f.bits) := by
  rw [getLsbD_slotValue, Nat.div_add_mod']
  simp [Nat.mod_lt _ f.bits_pos]

theorem slot_lt_ppw {f : Format} {i : Nat} (hi : i < 16) : i / f.bits < f.ppw := by
  rw [Nat.div_lt_iff_lt_mul f.bits_pos, f.ppw_mul_bits]
  exact hi

/-- Two words with the same slots are the same word (R4). -/
theorem word_ext {f : Format} {a b : Word} (h : ∀ k, k < f.ppw → slotValue f a k = slotValue f b k) : a = b :=
  BitVec.eq_of_getLsbD_eq fun i hi => by
    rw [getLsbD_eq_slotValue f a, getLsbD_eq_slotValue f b, h _ (slot_lt_ppw hi)]

/-- A slot's value has the bits of the format alone (R2). -/
@[simp] theorem slotValue_and_maxValue (f : Format) (w : Word) (k : Nat) : slotValue f w k &&& f.maxValue = slotValue f w k := by
  rw [slotValue, BitVec.and_assoc, BitVec.and_self]

@[simp] theorem slotValue_zero (f : Format) (k : Nat) : slotValue f 0 k = 0 :=
  BitVec.eq_of_getLsbD_eq fun i _ => by simp [getLsbD_slotValue]

/-! ## Raster operations -/

/-- A raster operation works bit by bit, so it takes values of the format to values of the format (R8). -/
theorem RasterOp.apply_and (op : RasterOp) (o v m : Word) : op.apply o v &&& m = op.apply (o &&& m) (v &&& m) := by
  cases op <;> refine BitVec.eq_of_getLsbD_eq fun i _ => ?_ <;> simp [RasterOp.apply] <;> grind

theorem RasterOp.combine_and (op : RasterOp) (v1 v2 m : Word) : op.combine v1 v2 &&& m = op.combine (v1 &&& m) (v2 &&& m) := by
  cases op <;> refine BitVec.eq_of_getLsbD_eq fun i _ => ?_ <;> simp [RasterOp.combine] <;> grind

@[simp] theorem RasterOp.combine_zero (op : RasterOp) (v : Word) : op.combine 0#16 v = v := by cases op <;> simp [RasterOp.combine]

/-- Two writes with one operation are one write with the combined operand (R10). -/
theorem RasterOp.apply_apply (op : RasterOp) (o v1 v2 : Word) : op.apply (op.apply o v1) v2 = op.apply o (op.combine v1 v2) := by
  cases op <;> refine BitVec.eq_of_getLsbD_eq fun i _ => ?_ <;> simp [RasterOp.apply, RasterOp.combine] <;> grind

/-- Writing the covered slots one after another leaves each covered slot with its value and every other as it was (R9). -/
theorem slotValue_foldl_withSlot {f : Format} {k n : Nat} (hk : k < f.ppw) (c : BitVec 16) (value : Nat → Word) (w : Word) :
    slotValue f ((List.range n).foldl (fun w k => if c.getLsbD k then withSlot f w k (value k) else w) w) k =
      if k < n ∧ c.getLsbD k = true then value k &&& f.maxValue else slotValue f w k := by
  induction n with
  | zero => simp
  | succ n ih =>
    rw [List.range_succ, List.foldl_append]
    simp only [List.foldl_cons, List.foldl_nil]
    by_cases hc : c.getLsbD n
    · rw [if_pos hc, slotValue_withSlot hk, ih]
      by_cases hkn : k = n
      · subst hkn
        simp [hc]
      · simp [hkn, show k < n + 1 ↔ k < n by omega]
    · rw [if_neg hc, ih]
      by_cases hkn : k = n
      · subst hkn
        simp [hc]
      · simp [show k < n + 1 ↔ k < n by omega]

/-- The formed word, slot by slot (R9). -/
theorem slotValue_applyToWord {f : Format} {k : Nat} (hk : k < f.ppw) (op : RasterOp) (c : BitVec 16) (operand old : Word) :
    slotValue f (applyToWord f op c operand old) k =
      if c.getLsbD k then op.apply (slotValue f old k) (slotValue f operand k) else slotValue f old k := by
  rw [applyToWord, slotValue_foldl_withSlot hk c fun k => op.apply (slotValue f old k) (slotValue f operand k)]
  simp [hk, RasterOp.apply_and]

/-- Settles O15: this is the formed word slot by slot. -/
theorem wordIsFormedSlotBySlot : Obligations.WordIsFormedSlotBySlot :=
  fun _ op coverage operand old _ hk => slotValue_applyToWord hk op coverage operand old

/-! ## Strobes -/

/-- A REPLACE takes each bit from the operand or from the old word, as its slot is covered (R9). -/
theorem getLsbD_applyToWord_replace {f : Format} {i : Nat} (hi : i < 16) (c : BitVec 16) (operand old : Word) :
    (applyToWord f .replace c operand old).getLsbD i = (if c.getLsbD (i / f.bits) then operand else old).getLsbD i := by
  rw [getLsbD_eq_slotValue f, slotValue_applyToWord (slot_lt_ppw hi)]
  split <;> exact (getLsbD_eq_slotValue f _ i).symm

/-- In a byte that is not PARTIAL a slot is covered exactly when the byte is WHOLE (R5). -/
theorem covered_of_not_partly {f : Format} {c : BitVec 16} {b : ByteOfWord} (h : byteClass f c b ≠ .partly) {k : Nat}
    (hk : k ∈ f.slotsIn b) : c.getLsbD k = decide (byteClass f c b = .whole) := by
  unfold byteClass at h ⊢
  by_cases hall : (f.slotsIn b).all (fun k => c.getLsbD k) = true
  · rw [if_pos hall]
    simpa using List.all_eq_true.mp hall k hk
  · rw [if_neg hall] at h ⊢
    by_cases hany : (f.slotsIn b).any (fun k => c.getLsbD k) = true
    · exact absurd (if_pos hany) h
    · rw [if_neg hany]
      exact Bool.eq_false_iff.mpr fun hc => hany (List.any_eq_true.mpr ⟨k, hk, hc⟩)

/-- The slot of a bit lies in the bit's byte (R4). -/
theorem slot_mem_low (f : Format) {i : Nat} (hi : i < 8) : i / f.bits ∈ f.slotsIn .low := by
  have h : ∀ i : Fin 8, i.val / f.bits ∈ f.slotsIn .low := by cases f <;> decide
  exact h ⟨i, hi⟩

theorem slot_mem_high (f : Format) {i : Nat} (hl : 8 ≤ i) (hi : i < 16) : i / f.bits ∈ f.slotsIn .high := by
  have h : ∀ i : Fin 16, 8 ≤ i.val → i.val / f.bits ∈ f.slotsIn .high := by cases f <;> decide
  exact h ⟨i, hi⟩ hl

theorem getLsbD_strobeSet_low (f : Format) (c : BitVec 16) : (strobeSet f c).getLsbD 0 = decide (byteClass f c .low = .whole) := by
  unfold strobeSet
  split <;> split <;> simp_all

theorem getLsbD_strobeSet_high (f : Format) (c : BitVec 16) : (strobeSet f c).getLsbD 1 = decide (byteClass f c .high = .whole) := by
  unfold strobeSet
  split <;> split <;> simp_all

/-- A byte of one slot is covered or not, never in part (R5). -/
theorem byteClass_of_single {f : Format} {b : ByteOfWord} {k : Nat} (h : f.slotsIn b = [k]) (c : BitVec 16) :
    byteClass f c b ≠ .partly := by
  cases hc : c.getLsbD k <;> simp [byteClass, h, hc]

/-- Settles O16: bit by bit, a slot is covered exactly when its byte is strobed. -/
theorem strobeWriteLeavesTheFormedWord : Obligations.StrobeWriteLeavesTheFormedWord := by
  refine ⟨fun f c operand old h => ?_, fun c => ?_⟩
  · have hpartly := byteAligned_iff.mp h
    refine BitVec.eq_of_getLsbD_eq fun i hi => ?_
    rw [getLsbD_applyToWord_replace hi, BitVec.getLsbD_or, BitVec.getLsbD_and, BitVec.getLsbD_and, getLsbD_strobeSet_low,
      getLsbD_strobeSet_high]
    have hmask : (0xFF00#16).getLsbD i = decide (8 ≤ i) ∧ (0x00FF#16).getLsbD i = decide (i < 8) := by
      revert i
      decide
    rw [hmask.1, hmask.2]
    by_cases hlow : i < 8
    · rw [covered_of_not_partly (hpartly .low) (slot_mem_low f hlow)]
      simp [hlow]
    · rw [covered_of_not_partly (hpartly .high) (slot_mem_high f (by omega) hi)]
      simp [hlow, show 8 ≤ i by omega]
  · refine if_pos ⟨rfl, byteAligned_iff.mpr fun b => ?_⟩
    cases b with
    | low => exact byteClass_of_single (k := 0) rfl c
    | high => exact byteClass_of_single (k := 1) rfl c

/-! ## Merging -/

theorem getLsbD_withCovered {c : BitVec 16} {k j : Nat} (hj : j < 16) :
    (withCovered c k).getLsbD j = (c.getLsbD j || decide (j = k)) := by
  simp only [withCovered, BitVec.getLsbD_or, BitVec.getLsbD_shiftLeft, BitVec.getLsbD_one, hj, decide_true, Bool.true_and]
  grind

theorem ppw_le (f : Format) : f.ppw ≤ 16 := by cases f <;> decide

/-- Settles O17: slot by slot, the merged slot by R10's law and every other slot unchanged. -/
theorem combinedOperandStandsForTheSeries : Obligations.CombinedOperandStandsForTheSeries := by
  refine ⟨RasterOp.apply_apply, fun f op c operand value old k hk hzero => word_ext (f := f) fun j hj => ?_⟩
  have hppw := ppw_le f
  rw [slotValue_applyToWord hj, slotValue_applyToWord hj, slotValue_applyToWord hj, slotValue_withSlot hj, slotValue_withSlot hj,
    getLsbD_withCovered (by omega), getLsbD_withCovered (by omega)]
  by_cases hjk : j = k
  · subst hjk
    cases hc : c.getLsbD j
    · simp [hzero hc]
    · simp [RasterOp.apply_apply, RasterOp.combine_and]
  · simp [hjk]

end Sys2Proof.Machine
end

-- ==== Read data by lanes ====
section
/-! PROOFS. The assembled read data (R7, R131): each resolved pixel puts its value into its own lane or lane pair, and no other pixel reaches there. -/

namespace Sys2Proof.Machine

/-- The lane of a pixel slot, the lower one of a pair (R127). -/
def PixelSlot.lane : PixelSlot → Nat
  | .tail lane => lane
  | .pixel lane _ _ _ _ => lane

theorem getLsbD_foldl_or {α : Type} (l : List α) (v : α → HostWord) (a : HostWord) (i : Nat) :
    (l.foldl (fun a x => a ||| v x) a).getLsbD i = (a.getLsbD i || l.any fun x => (v x).getLsbD i) := by
  induction l generalizing a with
  | nil => simp
  | cons x l ih => rw [List.foldl_cons, ih, BitVec.getLsbD_or, List.any_cons, Bool.or_assoc]

/-- A bit of the assembled data comes from some pixel slot (R131). -/
theorem getLsbD_assembled (g : Gather) (i : Nat) : g.assembled.getLsbD i = g.pixels.any fun x => (g.slotData x).getLsbD i := by
  rw [Gather.assembled, getLsbD_foldl_or]
  simp

theorem getLsbD_laneData (lane : Nat) (v : Word) {i : Nat} (hi : i < 32) :
    (laneData lane v).getLsbD i = (decide (8 * lane ≤ i) && v.getLsbD (i - 8 * lane)) := by
  simp only [laneData, BitVec.getLsbD_shiftLeft, BitVec.getLsbD_setWidth, hi, decide_true, Bool.true_and]
  by_cases h : 8 * lane ≤ i
  · simp [h, show ¬ i < 8 * lane by omega, show i - 8 * lane < 32 by omega]
  · simp [h, show i < 8 * lane by omega]

/-- A resolved pixel drives the bits of its value from its lane on, and only the bits of its format (R7). -/
theorem slotData_bit {g : Gather} {x : PixelSlot} {i : Nat} (hi : i < 32) (h : (g.slotData x).getLsbD i = true) :
    ∃ lane word slot index, x = .pixel lane word slot index .done ∧ 8 * lane ≤ i ∧ i < 8 * lane + g.format.bits := by
  unfold Gather.slotData at h
  split at h
  · simp at h
  · split at h
    · rw [getLsbD_laneData _ _ hi, getLsbD_slotValue] at h
      simp only [Bool.and_eq_true, decide_eq_true_eq] at h
      exact ⟨_, _, _, _, rfl, h.1, by omega⟩
    · simp at h
  · simp at h
  · simp at h

theorem slotData_of_done {g : Gather} {lane word slot index : Nat} {d : Word} (hd : (g.words[index]?).bind WordSlot.data? = some d) :
    g.slotData (.pixel lane word slot index .done) = laneData lane (slotValue g.format d slot) := by
  simp only [Gather.slotData, hd]

/-- Pixel slots with distinct lanes are told apart by them. -/
theorem eq_of_lane {l : List PixelSlot} (h : (l.map PixelSlot.lane).Nodup) {x y : PixelSlot} (hx : x ∈ l) (hy : y ∈ l)
    (hxy : x.lane = y.lane) : x = y := List.inj_on_of_nodup_map h hx hy hxy

theorem Format.bits_le_eight {f : Format} (h : f ≠ .p16) : f.bits ≤ 8 := by cases f <;> simp_all [Format.bits]

/-- Where the only pixel that can reach a bit is one resolved pixel, the bit is that pixel's (R7, R131). -/
theorem getLsbD_assembled_of_only {g : Gather} {j word slot index i : Nat} {c : Word} (hmem : .pixel j word slot index .done ∈ g.pixels)
    (hc : (g.words[index]?).bind WordSlot.data? = some c) (hi : 8 * j + i < 32)
    (honly : ∀ x ∈ g.pixels, (g.slotData x).getLsbD (8 * j + i) = true → x = .pixel j word slot index .done) :
    g.assembled.getLsbD (8 * j + i) = (slotValue g.format c slot).getLsbD i := by
  have hown : (g.slotData (.pixel j word slot index .done)).getLsbD (8 * j + i) = (slotValue g.format c slot).getLsbD i := by
    rw [slotData_of_done hc, getLsbD_laneData _ _ hi]
    simp
  rw [getLsbD_assembled, ← hown, Bool.eq_iff_iff, List.any_eq_true]
  constructor
  · rintro ⟨x, hx, hbit⟩
    rwa [honly x hx hbit] at hbit
  · exact fun hbit => ⟨_, hmem, hbit⟩

/-- Settles O32: each bit of a lane comes from the one pixel slot whose lane or pair holds it. -/
theorem readDataIsAssembledByLanes : Obligations.ReadDataIsAssembledByLanes := by
  intro g j hj laneOf hnodup hpair
  have hlane : laneOf = PixelSlot.lane := by
    funext x
    cases x <;> rfl
  rw [hlane] at hnodup hpair
  refine ⟨fun word slot index c hmem hc => ?value, fun hnone => ?zero⟩
  case value =>
    have honly {i : Nat} (hi : 8 * j + i < 32) (hlt : i < 8 ∨ i < g.format.bits) (x : PixelSlot) (hx : x ∈ g.pixels)
        (hbit : (g.slotData x).getLsbD (8 * j + i) = true) : x = .pixel j word slot index .done := by
      obtain ⟨lane, w, k, m, rfl, hle, hend⟩ := slotData_bit hi hbit
      refine eq_of_lane hnodup hx hmem (show lane = j from ?_)
      by_cases hp : g.format = .p16
      · have heven : lane % 2 = 0 := hpair hp _ hx
        have hjeven : j % 2 = 0 := hpair hp _ hmem
        have hbits : g.format.bits = 16 := by rw [hp]; rfl
        omega
      · have := Format.bits_le_eight hp
        omega
    split
    · rename_i hp
      have hjeven : j % 2 = 0 := hpair hp _ hmem
      have hbits : g.format.bits = 16 := by rw [hp]; rfl
      refine BitVec.eq_of_getLsbD_eq fun i hi => ?_
      rw [BitVec.getLsbD_setWidth, BitVec.getLsbD_ushiftRight,
        getLsbD_assembled_of_only hmem hc (by omega) (honly (by omega) (.inr (by omega)))]
      simp [hi]
    · refine BitVec.eq_of_getLsbD_eq fun i hi => ?_
      rw [BitVec.getLsbD_setWidth, BitVec.getLsbD_setWidth, BitVec.getLsbD_ushiftRight,
        getLsbD_assembled_of_only hmem hc (by omega) (honly (by omega) (.inl hi))]
  case zero =>
    refine BitVec.eq_of_getLsbD_eq fun i hi => ?_
    rw [BitVec.getLsbD_setWidth, BitVec.getLsbD_ushiftRight, getLsbD_assembled, BitVec.getLsbD_zero]
    simp only [hi, decide_true, Bool.true_and]
    refine List.any_eq_false.mpr fun x hx hbit => ?_
    obtain ⟨lane, w, k, m, rfl, hle, hend⟩ := slotData_bit (by omega) hbit
    obtain ⟨hne, hne'⟩ := hnone lane w k m hx
    by_cases hp : g.format = .p16
    · have := hne' hp
      have hbits : g.format.bits = 16 := by rw [hp]; rfl
      omega
    · have := Format.bits_le_eight hp
      omega

end Sys2Proof.Machine
end

-- ==== Translation ====
section
/-! PROOFS. Address translation (R35, R41 to R44): the scroll band permutes its rows, the mirrors reverse, and each physical position has its own
word and slot. -/

namespace Sys2Proof.Machine

/-- A row of the band (R41). -/
def Region.inBand (r : Region) (y : Nat) : Prop := 2 ≤ r.bandRows ∧ r.bandTop ≤ y ∧ y < r.bandTop + r.bandRows

theorem Region.bandRow_of_inBand {r : Region} {y : Nat} (h : r.inBand y) :
    r.bandRow y = r.bandTop + (y - r.bandTop + r.scroll) % r.bandRows := if_pos h

theorem Region.bandRow_of_not_inBand {r : Region} {y : Nat} (h : ¬ r.inBand y) : r.bandRow y = y := if_neg h

/-- The band's rows stay in the band, and every other row outside it (R41). -/
theorem Region.inBand_bandRow {r : Region} {y : Nat} : r.inBand (r.bandRow y) ↔ r.inBand y := by
  by_cases h : r.inBand y
  · have hlt := Nat.mod_lt (y - r.bandTop + r.scroll) (show 0 < r.bandRows by have := h.1; omega)
    rw [bandRow_of_inBand h]
    exact iff_of_true ⟨h.1, by omega, by omega⟩ h
  · rw [bandRow_of_not_inBand h]

/-- Adding one offset modulo n keeps numbers below n apart. -/
theorem eq_of_add_mod {a b c n : Nat} (ha : a < n) (hb : b < n) (h : (a + c) % n = (b + c) % n) : a = b := by
  have hmod : a % n = b % n := Nat.ModEq.add_right_cancel' c h
  rwa [Nat.mod_eq_of_lt ha, Nat.mod_eq_of_lt hb] at hmod

/-- The scroll band takes no two rows to the same row (R41). -/
theorem Region.bandRow_injective {r : Region} {y z : Nat} (h : r.bandRow y = r.bandRow z) : y = z := by
  have hband : r.inBand y ↔ r.inBand z := by rw [← inBand_bandRow, h, inBand_bandRow]
  by_cases hy : r.inBand y
  · have hz := hband.mp hy
    rw [bandRow_of_inBand hy, bandRow_of_inBand hz] at h
    obtain ⟨-, hyl, hyr⟩ := hy
    obtain ⟨-, hzl, hzr⟩ := hz
    have := eq_of_add_mod (a := y - r.bandTop) (b := z - r.bandTop) (n := r.bandRows) (by omega) (by omega) (Nat.add_left_cancel h)
    omega
  · rwa [bandRow_of_not_inBand hy, bandRow_of_not_inBand (fun hz => hy (hband.mpr hz))] at h

/-- A band inside the surface keeps its rows there (R25, R41). -/
theorem Region.bandRow_lt {r : Region} {y : Nat} (hfits : r.bandRows = 0 ∨ r.bandTop + r.bandRows ≤ r.height) (hy : y < r.height) :
    r.bandRow y < r.height := by
  by_cases h : r.inBand y
  · obtain ⟨h2, -, hlt⟩ := inBand_bandRow.mpr h
    omega
  · rwa [bandRow_of_not_inBand h]

/-- A mirror keeps a coordinate inside its extent (R42). -/
theorem mirror_lt (mirror : Bool) {n x : Nat} (h : x < n) : (if mirror then n - 1 - x else x) < n := by
  split <;> omega

theorem mirror_injective (mirror : Bool) {n x y : Nat} (hx : x < n) (hy : y < n)
    (h : (if mirror then n - 1 - x else x) = (if mirror then n - 1 - y else y)) : x = y := by
  split at h <;> omega

theorem Format.ppw_pos (f : Format) : 0 < f.ppw := by cases f <;> decide

/-- The word column of a pixel column of the surface lies in the pitch (R3, R14). -/
theorem Region.wordColumn_lt {r : Region} {px : Nat} (hrow : r.width ≤ r.pitch * r.format.ppw) (hx : px < r.width) :
    px / r.format.ppw < r.pitch := (Nat.div_lt_iff_lt_mul r.format.ppw_pos).mpr (by omega)

/-- Each physical position has its own word and slot (R3, R43). -/
theorem Region.locate_injective {r : Region} {px py qx qy : Nat} (hrow : r.width ≤ r.pitch * r.format.ppw) (hp : px < r.width)
    (hq : qx < r.width) (h : r.locate px py = r.locate qx qy) : px = qx ∧ py = qy := by
  have hpc := wordColumn_lt hrow hp
  have hqc := wordColumn_lt hrow hq
  simp only [locate, Located.mk.injEq] at h
  obtain ⟨hword, hslot⟩ := h
  have hsum : px / r.format.ppw + r.pitch * py = qx / r.format.ppw + r.pitch * qy := by
    rw [Nat.mul_comm r.pitch, Nat.mul_comm r.pitch]
    omega
  have hcol : px / r.format.ppw = qx / r.format.ppw := by
    have := congrArg (· % r.pitch) hsum
    simpa [Nat.mod_eq_of_lt hpc, Nat.mod_eq_of_lt hqc] using this
  rw [hcol] at hsum
  refine ⟨?_, Nat.eq_of_mul_eq_mul_left (Nat.zero_lt_of_lt hpc) (Nat.add_left_cancel hsum)⟩
  rw [← Nat.div_add_mod px r.format.ppw, ← Nat.div_add_mod qx r.format.ppw, hcol, hslot]

/-- A physical position of the surface lies in the surface's words (R43, R44). -/
theorem Region.locate_word_lt {r : Region} {px py : Nat} (hrow : r.width ≤ r.pitch * r.format.ppw) (hx : px < r.width) (hy : py < r.height) :
    r.base ≤ (r.locate px py).word ∧ (r.locate px py).word < r.base + r.height * r.pitch := by
  have hcol := wordColumn_lt hrow hx
  have hrows : (py + 1) * r.pitch ≤ r.height * r.pitch := Nat.mul_le_mul_right _ hy
  rw [Nat.succ_mul] at hrows
  simp only [locate]
  generalize px / r.format.ppw = column at hcol ⊢
  omega

/-- Settles O18: the band, the mirrors and the location are each one to one and each stay in the surface. -/
theorem translationIsOneToOne : Obligations.TranslationIsOneToOne := by
  intro r words p q hchecks hpx hpy hqx hqy
  simp only [Region.enableChecks, Region.rowFits, Region.surfaceFits, Region.bandFits, Bool.and_eq_true, Bool.or_eq_true,
    decide_eq_true_eq] at hchecks
  obtain ⟨⟨⟨⟨⟨⟨-, hrow⟩, hsurface⟩, -⟩, hband⟩, -⟩, -⟩ := hchecks
  have hbp := Region.bandRow_lt hband hpy
  have hbq := Region.bandRow_lt hband hqy
  obtain ⟨hlow, hhigh⟩ := Region.locate_word_lt hrow (mirror_lt r.mirrorX hpx) (mirror_lt r.mirrorY hbp)
  refine ⟨⟨hlow, hhigh, Nat.lt_of_lt_of_le hhigh hsurface, Nat.mod_lt _ r.format.ppw_pos⟩, fun h => ?_⟩
  obtain ⟨hx, hy⟩ := Region.locate_injective hrow (mirror_lt r.mirrorX hpx) (mirror_lt r.mirrorX hqx) h
  have hxy : p.x = q.x ∧ p.y = q.y :=
    ⟨mirror_injective r.mirrorX hpx hqx hx, Region.bandRow_injective (mirror_injective r.mirrorY hbp hbq hy)⟩
  cases p
  cases q
  simpa using hxy

end Sys2Proof.Machine
end

-- ==== The queue holds at most thirteen items ====
section
/-! PROOFS. The size of the memory queue (R108): every item has a place of its own among eight entries, four gather words and one prefetch. -/

namespace Sys2Proof.Machine

/-- The place of an item: its entry's, its gather word's, or the prefetch's (R108). -/
def Item.place : Item → Nat
  | .entry i => i.val
  | .prefetch _ _ => 8
  | .gather _ k _ => 9 + k

theorem toNat_le_one (b : Bool) : b.toNat ≤ 1 := by cases b <;> decide

/-- Where the queue agrees with the rest, each item's place is one of thirteen. -/
theorem place_lt {s : State} (h : QueueOk s) {x : Item} (hx : x ∈ s.mq) : x.place < 13 := by
  obtain ⟨-, -, ⟨hitems, -, -, -⟩, -⟩ := h
  cases x with
  | entry i => exact Nat.lt_trans i.isLt (by decide)
  | gather w k o =>
    have hok := hitems _ hx
    simp only [gatherItemOk, Bool.and_eq_true, decide_eq_true_eq] at hok
    change 9 + k < 13
    omega
  | prefetch w o => exact show 8 < 13 by decide

/-- No two items share a place (R108, R127, R133). -/
theorem countP_place_le_one {s : State} (h : QueueOk s) (n : Nat) : s.mq.countP (fun x => x.place == n) ≤ 1 := by
  have hlt {x : Item} (hx : x ∈ s.mq) := place_lt h hx
  obtain ⟨-, hentries, ⟨-, hgather, -, -⟩, ⟨-, hprefetch⟩, -⟩ := h
  have hsame {p : Item → Bool} (hp : ∀ x ∈ s.mq, (x.place == n) = true ↔ p x = true) (hc : s.mq.countP p ≤ 1) :
      s.mq.countP (fun x => x.place == n) ≤ 1 := by rwa [List.countP_congr hp]
  obtain hn | rfl | hn | hn : n < 8 ∨ n = 8 ∨ (9 ≤ n ∧ n < 13) ∨ 13 ≤ n := by omega
  · refine hsame (p := fun x => x == .entry ⟨n, hn⟩) (fun x _ => ?_) ((hentries ⟨n, hn⟩).trans_le (toNat_le_one _))
    cases x <;> simp [Item.place, Fin.ext_iff] <;> omega
  · refine hsame (p := Item.isPrefetch) (fun x _ => ?_) (hprefetch.trans_le (toNat_le_one _))
    cases x with
    | entry i => simp [Item.place, Item.isPrefetch, Nat.ne_of_lt i.isLt]
    | gather w k o => simp [Item.place, Item.isPrefetch, show 9 + k ≠ 8 by omega]
    | prefetch w o => simp [Item.place, Item.isPrefetch]
  · refine hsame (p := Item.isGatherAt (n - 9)) (fun x _ => ?_) ((hgather ⟨n - 9, by omega⟩).trans_le (toNat_le_one _))
    cases x with
    | entry i => simp [Item.place, Item.isGatherAt, show i.val ≠ n by omega]
    | gather w k o => simp [Item.place, Item.isGatherAt, show 9 + k = n ↔ k = n - 9 by omega]
    | prefetch w o => simp [Item.place, Item.isGatherAt, show 8 ≠ n by omega]
  · refine (List.countP_eq_zero.mpr fun x hx => ?_).trans_le (Nat.zero_le 1)
    simpa using Nat.ne_of_lt (Nat.lt_of_lt_of_le (hlt hx) hn)

/-- Settles O14: thirteen places, and no two items in one. -/
theorem queueHoldsAtMostThirteen : Obligations.QueueHoldsAtMostThirteen := by
  intro s h
  have hnodup : (s.mq.map Item.place).Nodup := List.nodup_iff_count_le_one.mpr fun n => by
    rw [List.count, List.countP_map]
    exact countP_place_le_one h n
  have hsub : s.mq.map Item.place ⊆ List.range 13 := fun n hn => by
    obtain ⟨x, hx, rfl⟩ := List.mem_map.mp hn
    exact List.mem_range.mpr (place_lt h hx)
  simpa using (hnodup.subperm hsub).length_le

end Sys2Proof.Machine
end

-- ==== Responses read back ====
section
/-! PROOFS. The response bytes (R29, R82, R160 to R163, R172): a number sent most significant byte first reads back from its bytes, and so each
field of the three responses from its place. -/

namespace Sys2Proof.Machine

/-! ## Numbers and their bytes (R163) -/

@[simp] theorem length_bytesOf (n v : Nat) : (bytesOf n v).length = n := by
  induction n with
  | zero => rfl
  | succ n ih => rw [bytesOf, List.length_cons, ih]

theorem foldl_bytesOf (n v a : Nat) : (bytesOf n v).foldl (fun a b => a * 256 + b.toNat) a = a * 256 ^ n + v % 256 ^ n := by
  induction n generalizing a with
  | zero => simp [bytesOf, Nat.mod_one]
  | succ n ih =>
    have hmod : v % 256 ^ (n + 1) = v % 256 ^ n + 256 ^ n * (v / 256 ^ n % 256) := Nat.mod_pow_succ
    rw [bytesOf, List.foldl_cons, ih, BitVec.toNat_ofNat, hmod]
    ring

/-- A number reads back from as many bytes as hold it (R163). -/
theorem numberOf_bytesOf {n v : Nat} (h : v < 256 ^ n) : numberOf (bytesOf n v) = v := by
  rw [numberOf, foldl_bytesOf, Nat.mod_eq_of_lt h]
  simp

/-- The field at a place of a response whose bytes there are a number's. -/
theorem field_eq {b : List Byte} {i k v : Nat} (h : (b.drop i).take k = bytesOf k v) (hv : v < 256 ^ k) :
    numberOf ((b.drop i).take k) = v := by rw [h, numberOf_bytesOf hv]

/-- The field of one byte. -/
theorem field_byte {b : List Byte} {i v : Nat} (h : (b.drop i).take 1 = [BitVec.ofNat 8 v]) (hv : v < 256) :
    numberOf ((b.drop i).take 1) = v := by
  rw [h]
  simp [numberOf, Nat.mod_eq_of_lt hv]

/-- A flag is a bit. -/
theorem toNat_flag (b : Bool) : b.toNat ≤ 1 ∧ (b.toNat = 1 ↔ b = true) := by cases b <;> simp

/-! ## The status response (R160) -/

theorem length_filter_four {α : Type} {p q r t : α → Bool} (h : ∀ x, (p x).toNat + (q x).toNat + (r x).toNat + (t x).toNat = 1) (l : List α) :
    (l.filter p).length + (l.filter q).length + (l.filter r).length + (l.filter t).length = l.length := by
  induction l with
  | nil => rfl
  | cons x l ih =>
    have hcons (p : α → Bool) : ((x :: l).filter p).length = (p x).toNat + (l.filter p).length := by
      rw [List.filter_cons]
      cases p x <;> simp [Nat.add_comm]
    have hx := h x
    simp only [hcons, List.length_cons]
    omega

/-- Every entry is in one of the four states (R82). -/
theorem counts_add_up (s : State) : countFree s + countOpen s + countClosed s + countActive s = 8 := by
  refine length_filter_four (fun i => ?_) allEight
  cases s.mb[i] with
  | none => rfl
  | some e => cases hst : e.state <;> simp [Entry.isOpen, hst]

theorem MsqState.code_le (st : MsqState) : st.code ≤ 5 := by cases st <;> decide

theorem HoldState.code_le (st : HoldState) : st.code ≤ 2 := by cases st <;> simp [HoldState.code]

theorem status_reads_back {s : State} (hset : SettingsOk s) (hlog : LogOk s) (hmq : s.mq.length ≤ 13) (hact : countActive s ≤ 1) {b : Nat → Nat}
    (hb : ∀ i, b i = ((statusBytes s)[i]?.getD 0).toNat) :
    b 0 % 8 = s.msq.state.code ∧ b 0 / 8 % 4 = s.hld.state.code
      ∧ (b 0 / 32 % 2 = 1 ↔ s.cmu.flushDone = true) ∧ (b 0 / 64 % 2 = 1 ↔ s.cmu.restarting = true)
      ∧ (b 0 / 128 = 1 ↔ s.flog.overflow = true)
      ∧ b 1 % 16 = countFree s ∧ b 1 / 16 = countOpen s
      ∧ b 2 % 16 = countClosed s ∧ b 2 / 16 % 2 = countActive s
      ∧ (b 2 / 32 % 2 = 1 ↔ s.ral.latch.isSome = true) ∧ (b 2 / 64 = 1 ↔ s.ral.prefetch.isSome = true)
      ∧ b 3 % 16 = s.mq.length ∧ b 3 / 16 = s.flog.records.length
      ∧ b 4 = s.cmu.lastResult.code.toNat
      ∧ b 5 % 32 = s.cmu.settings.memorySize ∧ (b 5 / 32 % 2 = 1 ↔ s.cmu.settings.passThrough = true)
      ∧ (b 5 / 64 = 1 ↔ s.cmu.settings.holdPolicy = .drainFirst)
      ∧ b 6 = s.cmu.settings.idleDelay ∧ b 7 = s.cmu.settings.readyTimeout / 16 := by
  have hsum := counts_add_up s
  have hbyte {i v : Nat} (h : (statusBytes s)[i]?.getD 0 = BitVec.ofNat 8 v) (hv : v < 256) : b i = v := by
    rw [hb, h, BitVec.toNat_ofNat, Nat.mod_eq_of_lt hv]
  obtain ⟨⟨hmem, hmem'⟩, hdelay, -, htimeout⟩ := hset
  have hrecords : s.flog.records.length ≤ 4 := hlog.1
  have hmsq := s.msq.state.code_le
  have hhld := s.hld.state.code_le
  obtain ⟨hflush, hflush'⟩ := toNat_flag s.cmu.flushDone
  obtain ⟨hrestart, hrestart'⟩ := toNat_flag s.cmu.restarting
  obtain ⟨hover, hover'⟩ := toNat_flag s.flog.overflow
  obtain ⟨hlatch, hlatch'⟩ := toNat_flag s.ral.latch.isSome
  obtain ⟨hpre, hpre'⟩ := toNat_flag s.ral.prefetch.isSome
  obtain ⟨hpass, hpass'⟩ := toNat_flag s.cmu.settings.passThrough
  have hpolicy : ∃ n, n ≤ 1 ∧ (if s.cmu.settings.holdPolicy = .drainFirst then 64 else 0) = 64 * n
      ∧ (n = 1 ↔ s.cmu.settings.holdPolicy = .drainFirst) := by
    by_cases h : s.cmu.settings.holdPolicy = .drainFirst
    · exact ⟨1, by simp [h]⟩
    · exact ⟨0, by simp [h]⟩
  obtain ⟨policy, hpol, hpol', hpol''⟩ := hpolicy
  have h0 := hbyte (i := 0) rfl (by omega)
  have h1 := hbyte (i := 1) rfl (by omega)
  have h2 := hbyte (i := 2) rfl (by omega)
  have h3 := hbyte (i := 3) rfl (by omega)
  have h4 : b 4 = s.cmu.lastResult.code.toNat := hb 4
  have h5 := hbyte (i := 5) rfl (by omega)
  have h6 := hbyte (i := 6) rfl (by omega)
  have h7 := hbyte (i := 7) rfl (by omega)
  have hcounts : countFree s ≤ 8 ∧ countOpen s ≤ 8 ∧ countClosed s ≤ 8 := by omega
  clear hsum
  rw [← hflush', ← hrestart', ← hover', ← hlatch', ← hpre', ← hpass', ← hpol'']
  and_intros <;> omega

/-! ## The fault response (R161, R172) -/

theorem FaultKind.code_lt (k : FaultKind) : k.code < 256 := by cases k <;> decide

theorem originCode_lt (o : Option Origin) : originCode o < 256 := by
  rcases o with _ | ⟨n⟩ | _
  · decide
  · exact Nat.lt_trans n.isLt (by decide)
  · decide

theorem length_faultBytes (f : Flog) : (faultBytes f).length = 10 := by
  unfold faultBytes
  split <;> rfl

theorem getD_lt {o : Option Nat} {n : Nat} (hn : 0 < n) (h : ∀ a ∈ o, a < n) : o.getD 0 < n := by
  cases o with
  | none => exact hn
  | some a => exact h a rfl

/-- The bytes of a record's flags, as a number: five flags, each in its bit (R161). -/
theorem flags_read_back {a b c d e : Bool} {n : Nat} (h : n = a.toNat + 2 * b.toNat + 4 * c.toNat + 8 * d.toNat + 16 * e.toNat) :
    (n % 2 = 1 ↔ a = true) ∧ (n / 2 % 2 = 1 ↔ b = true) ∧ (n / 4 % 2 = 1 ↔ c = true) ∧ (n / 8 % 2 = 1 ↔ d = true)
      ∧ (n / 16 = 1 ↔ e = true) ∧ n < 32 := by
  subst h
  cases a <;> cases b <;> cases c <;> cases d <;> cases e <;> decide

theorem ite_eq_toNat {p : Prop} [Decidable p] (n : Nat) : (if p then n else 0) = n * (decide p).toNat := by
  by_cases h : p <;> simp [h]

/-- The oldest record reads back from its bytes (R161, R172). -/
theorem fault_reads_back {r : FaultRecord} {rest : List FaultRecord} {overflow : Bool} (hlen : (r :: rest).length ≤ 4)
    (ha : ∀ a ∈ r.hostAddress, a < 16777216) (hw : ∀ w ∈ r.wordAddress, w < 1048576) :
    let field (i k : Nat) : Nat := numberOf (((faultBytes ⟨r :: rest, overflow⟩).drop i).take k)
    field 0 1 = r.kind.code ∧ field 1 1 = originCode r.origin
      ∧ ((field 2 1 % 2 = 1 ↔ r.direction = .write) ∧ (field 2 1 / 2 % 2 = 1 ↔ r.hostAddress.isSome = true)
        ∧ (field 2 1 / 4 % 2 = 1 ↔ r.wordAddress.isSome = true) ∧ (field 2 1 / 8 % 2 = 1 ↔ r.purpose = some .prefetch)
        ∧ (field 2 1 / 16 = 1 ↔ overflow = true) ∧ field 2 1 < 32)
      ∧ field 3 3 = r.hostAddress.getD 0 ∧ field 6 3 = r.wordAddress.getD 0 ∧ field 9 1 = (r :: rest).length := by
  intro field
  have hflags : (if r.direction = .write then 1 else 0) + 2 * r.hostAddress.isSome.toNat + 4 * r.wordAddress.isSome.toNat
      + (if r.purpose = some .prefetch then 8 else 0) + 16 * overflow.toNat
      = (decide (r.direction = .write)).toNat + 2 * r.hostAddress.isSome.toNat + 4 * r.wordAddress.isSome.toNat
        + 8 * (decide (r.purpose = some .prefetch)).toNat + 16 * overflow.toNat := by
    rw [ite_eq_toNat, ite_eq_toNat, Nat.one_mul]
  have hread := flags_read_back hflags
  have hfield : field 2 1 = _ := field_byte rfl (Nat.lt_trans hread.2.2.2.2.2 (by decide))
  rw [hfield]
  refine ⟨field_byte rfl r.kind.code_lt, field_byte rfl (originCode_lt _), by simpa only [decide_eq_true_eq] using hread,
    field_eq rfl (getD_lt (by decide) ha), field_eq rfl (Nat.lt_trans (getD_lt (by decide) hw) (by decide)), field_byte rfl (by omega)⟩

/-! ## The region response (R29, R162) -/

/-- The region response field by field (R162). -/
def regionFields (n : Nat) (r : Region) : List (List Byte) :=
  [[BitVec.ofNat 8 n], [BitVec.ofNat 8 (r.enabled.toNat + 2 * r.revisit.toNat)],
    bytesOf 3 r.windowBase, bytesOf 3 r.windowLength, bytesOf 3 r.base, bytesOf 2 r.pitch, bytesOf 2 r.width, bytesOf 2 r.height,
    [BitVec.ofNat 8 r.format.code], [r.modeA], [r.modeB], bytesOf 2 r.bandTop, bytesOf 2 r.bandRows, bytesOf 2 r.scroll,
    bytesOf 2 r.x0, bytesOf 2 r.x1, bytesOf 2 r.y0, bytesOf 2 r.y1, bytesOf 2 r.cursor.x, bytesOf 2 r.cursor.y,
    bytesOf 2 ((r.mark.map Position.x).getD 0), bytesOf 2 ((r.mark.map Position.y).getD 0)]

theorem regionBytes_eq_flatten (n : Nat) (r : Region) : regionBytes n r = (regionFields n r).flatten := by
  unfold regionBytes regionFields
  simp only [List.append_assoc]
  rfl

/-- The mode bytes of a record set its own mode fields (R163). -/
theorem modeOf_modes (q r : Region) :
    modeOf q r.modeA r.modeB =
      some { q with kind := r.kind, access := r.access, op := r.op, mirrorX := r.mirrorX, mirrorY := r.mirrorY, scan := r.scan,
                    readAhead := r.readAhead } := by
  have hA : r.modeA >>> 5 = 0 ∧ r.access.code = ((r.modeA >>> 1) &&& 3#8).toNat ∧ r.op.code = ((r.modeA >>> 3) &&& 3#8).toNat
      ∧ (if r.modeA.getLsbD 0 then Kind.stream else .mapped) = r.kind := by
    unfold Region.modeA
    cases r.kind <;> cases r.access <;> cases r.op <;> decide
  have hB : r.modeB >>> 4 = 0 ∧ r.modeB.getLsbD 0 = r.mirrorX ∧ r.modeB.getLsbD 1 = r.mirrorY
      ∧ (if r.modeB.getLsbD 2 then ScanOrder.columnFirst else .rowFirst) = r.scan ∧ r.modeB.getLsbD 3 = r.readAhead := by
    unfold Region.modeB
    cases r.mirrorX <;> cases r.mirrorY <;> cases r.scan <;> cases r.readAhead <;> decide
  obtain ⟨hA5, haccess, hop, hkind⟩ := hA
  obtain ⟨hB4, hmx, hmy, hscan, hahead⟩ := hB
  rw [modeOf_of_codes q hA5 hB4 haccess hop, hkind, hmx, hmy, hscan, hahead]

theorem Region.inCursorWindow_lt {r : Region} {p : Position} (hr : r.inRange) (h : r.inCursorWindow p = true) : p.x < 65536 ∧ p.y < 65536 := by
  obtain ⟨-, -, -, -, hx1, -, hy1⟩ := hr
  obtain ⟨-, hx, -, hy⟩ := Region.inCursorWindow_iff.mp h
  omega

/-- Settles O50: field by field, from the bytes at its place. -/
theorem responsesReadBack : Obligations.ResponsesReadBack := by
  refine ⟨fun s hset hlog hmq hact => ⟨counts_add_up s, rfl, fun b hb => status_reads_back hset hlog hmq hact hb⟩,
    fun f => ⟨length_faultBytes f, fun h => by simp only [faultBytes, h]; rfl, fun r rest hrec hlen ha hw => ?fault⟩,
    fun n r hrange hcursor => ?region⟩
  case fault =>
    obtain ⟨records, overflow⟩ := f
    obtain rfl : records = r :: rest := hrec
    obtain ⟨hkind, horigin, hflags, hrest⟩ := fault_reads_back (overflow := overflow) hlen ha hw
    refine ⟨hkind.trans ?_, horigin.trans ?_, hflags.1, hflags.2.1, hflags.2.2.1, hflags.2.2.2.1, hflags.2.2.2.2.1, hflags.2.2.2.2.2, hrest⟩
    · cases r.kind <;> rfl
    · rcases r.origin with _ | _ | _ <;> rfl
  case region =>
    rw [regionBytes_eq_flatten]
    obtain ⟨hcur, hmark, hrev, -⟩ := hcursor
    have hin (p : Position) (h : r.inCursorWindow p = true) := Region.inCursorWindow_lt hrange h
    obtain ⟨hcx, hcy⟩ := hin _ hcur
    obtain ⟨⟨hwb, -, hwl⟩, ⟨hbase, -, hpitch, -, hwidth, -, hheight⟩, ⟨htop, -, hrows, hscroll⟩, hx0, hx1, hy0, hy1⟩ := hrange
    have hn := n.isLt
    have hformat : r.format.code < 256 := by cases r.format <;> decide
    refine ⟨rfl, field_byte rfl (by omega), ?_, field_eq rfl (by omega), field_eq rfl (by omega), field_eq rfl (by omega),
      field_eq rfl (by omega), field_eq rfl (by omega), field_eq rfl (by omega), ?_, fun q => modeOf_modes q r,
      field_eq rfl (by omega), field_eq rfl (by omega), field_eq rfl (by omega), field_eq rfl (by omega), field_eq rfl (by omega),
      field_eq rfl (by omega), field_eq rfl (by omega), field_eq rfl hcx, field_eq rfl hcy, fun m hm => ?_, fun hm => ?_⟩
    · refine (field_byte rfl ?_).trans ?_ <;> cases r.enabled <;> cases r.revisit <;> decide
    · exact (congrArg Format.ofCode (field_byte rfl hformat)).trans (Format.ofCode_code r.format)
    · obtain ⟨hmx, hmy⟩ := hin m (hmark m hm)
      rw [Option.mem_def] at hm
      refine ⟨(field_eq rfl ?_).trans ?_, (field_eq rfl ?_).trans ?_⟩ <;> simp [hm, hmx, hmy]
    · simp only [regionFields, hm]
      rfl

end Sys2Proof.Machine
end

-- ==== Writes and reads in hand ====
section
/-! PROOFS. The access in hand (R60 to R63, R91, R94, R99, R131, R135, R136): how a write hands its pixels on and is answered, how a waiting pixel is
taken, and how a complete read is answered with the prefetch that follows it. -/

namespace Sys2Proof.Machine

/-! ## Handing pixels on -/

theorem placeList_of_accepted {s u : State} {p : Pixel} (h : placePixel s p = .accepted u) (l : List ListEntry) :
    placeList s (.pixel p :: l) = ((placeList u l).1, (placeList u l).2 + 1) := by simp only [placeList, h]

theorem placeList_of_waits {s u : State} {p : Pixel} (h : placePixel s p = .waits u) (l : List ListEntry) :
    placeList s (.pixel p :: l) = (u, 0) := by simp only [placeList, h]

/-- The next entry of a list stands at the head of what is left of it. -/
theorem drop_of_getElem? {l : List ListEntry} {n : Nat} {x : ListEntry} (h : l[n]? = some x) :
    n < l.length ∧ l.drop n = x :: l.drop (n + 1) := by
  obtain ⟨hlt, hx⟩ := List.getElem?_eq_some_iff.mp h
  exact ⟨hlt, by rw [List.drop_eq_getElem_cons hlt, hx]⟩

/-- A pixel that is taken leaves the rest to be handed on from the state it gives (R60). -/
theorem continueWrite_of_accepted {s u : State} {a : AccessRecord} {p : Pixel} (hp : a.list[a.next]? = some (.pixel p))
    (h : placePixel s p = .accepted u) : continueWrite s a = continueWrite u { a with next := a.next + 1 } := by
  have hcount : a.next + ((placeList u (a.list.drop (a.next + 1))).2 + 1) = a.next + 1 + (placeList u (a.list.drop (a.next + 1))).2 := by
    omega
  simp only [continueWrite, (drop_of_getElem? hp).2, placeList_of_accepted h]
  rw [hcount]
  rfl

/-- A pixel that waits leaves the write in hand with that pixel next (R60, R90). -/
theorem continueWrite_of_waits {s u : State} {a : AccessRecord} {p : Pixel} (hp : a.list[a.next]? = some (.pixel p))
    (h : placePixel s p = .waits u) : continueWrite s a = { u with hpc := { s.hpc with access := some a } } := by
  obtain ⟨hlt, hdrop⟩ := drop_of_getElem? hp
  have hframe := placePixel_frame s p
  rw [h, Placement.state] at hframe
  have hhpc : u.hpc = s.hpc := by rw [hframe]
  simp only [continueWrite, hdrop, placeList_of_waits h, Nat.add_zero, if_neg (Nat.not_le.mpr hlt), withNext, hhpc]

/-- The answer of a write whose last pixel has been accepted, before the MB is notified (R61). -/
theorem continueWrite_of_end {s : State} {a : AccessRecord} (h : a.list.length ≤ a.next) :
    continueWrite s a = completionNotification (answer { s with hpc := { s.hpc with access := some a } } false 0) := by
  simp only [continueWrite, List.drop_eq_nil_of_le h, placeList, Nat.add_zero, if_pos h, finishWrite, withNext]

theorem answer_eq (s : State) (a : AccessRecord) (error : Bool) (data : HostWord) :
    answer { s with hpc := { s.hpc with access := some a } } error data =
      { s with hpc := ⟨if s.inp.hreq then .answered else .idle, if s.inp.hreq then some a else none, true, error, data⟩ } := rfl

/-! ## Taking a waiting placement -/

theorem waitingWrite_of {s : State} {a : AccessRecord} (hst : s.hpc.state = .placing) (ha : s.hpc.access = some a)
    (hn : a.next < a.list.length) : waitingWrite s = some a := by simp only [waitingWrite, hst, ha, if_true, if_pos hn]

theorem lowestFree_isSome {s : State} (h : ∃ i : Fin 8, s.mb[i] = none) : (lowestFree s).isSome = true := by
  obtain ⟨i, hi⟩ := h
  cases hf : lowestFree s with
  | none => exact absurd hi (lowestFree_eq_none.mp hf i)
  | some k => rfl

/-- Once an entry is FREE, WAITING_PLACEMENT_TAKEN goes on with the write in hand (R91). -/
theorem exec_waitingPlacementTaken {s : State} {a : AccessRecord} (hr : s.inp.rstn = true) (hst : s.hpc.state = .placing)
    (ha : s.hpc.access = some a) (hn : a.next < a.list.length) (hfree : ∃ i : Fin 8, s.mb[i] = none) :
    exec .waitingPlacementTaken s = .next (continueWrite s a) := by
  have hw := waitingWrite_of hst ha hn
  have hdue : placementDue s = true := by rw [placementDue, hw, lowestFree_isSome hfree]; rfl
  change execWaitingPlacementTaken s = _
  rw [execWaitingPlacementTaken, if_pos ⟨hr, hdue⟩, takeWaitingPlacement, if_pos hdue]
  simp only [hw]

/-- Settles O36: one equation each for a pixel taken, a pixel that waits, and the end of the list. -/
theorem placingHandsThePixelsOn : Obligations.PlacingHandsThePixelsOn := by
  intro s a
  refine ⟨exec_waitingPlacementTaken, fun p hp => ⟨fun u h => continueWrite_of_accepted hp h, fun u h => continueWrite_of_waits hp h⟩,
    fun hend => ⟨_, rfl, ?_, fun hre => ?_, fun hre => ?_⟩⟩ <;> rw [continueWrite_of_end hend, answer_eq]
  · rw [(completionNotification_closesOnly _).frame]
  all_goals
    have hclosed := completionNotification_closedWhere
      { s with hpc := ⟨if s.inp.hreq then .answered else .idle, if s.inp.hreq then some a else none, true, false, 0⟩ }
    simp only [hre, Bool.false_eq_true, if_true, if_false] at hclosed
    exact hclosed.congr rfl rfl rfl rfl

/-- With no entry AT_ANSWER and RESTART not in progress the completion notification closes nothing (R94). -/
theorem completionNotification_of_none {s : State} (hre : s.cmu.restarting = false) (h : NoneAtAnswer s) : completionNotification s = s := by
  rw [completionNotification, hre, entriesWhere_eq_nil h]
  rfl

/-- With an idle close delay an entry opens with its timer counting (R93). -/
theorem startIdleTimer_of_delay {s : State} (h : 1 ≤ s.cmu.settings.idleDelay) :
    startIdleTimer s = .count (8 * s.cmu.settings.idleDelay) := if_neg (by omega)

theorem openedEntry_eq {s : State} {p : Pixel} {v : Word} (hv : p.value = some v) (hd : 1 ≤ s.cmu.settings.idleDelay) :
    openedEntry s p =
      ⟨.opened (.count (8 * s.cmu.settings.idleDelay)), p.word, p.format, p.op, withSlot p.format 0 p.slot v, withCovered 0 p.slot,
        nextOrder s, p.origin⟩ := by
  rw [openedEntry, startIdleTimer_of_delay hd, Pixel.operand_of_value hv]

/-- The last pixel of a write opens the lowest FREE entry, with no entry AT_ANSWER after it, and the write is answered (R61, R89, R138). -/
theorem continueWrite_of_last {s : State} {a : AccessRecord} {p : Pixel} {v : Word} {i : Fin 8} (hp : a.list[a.next]? = some (.pixel p))
    (hlast : a.list.length = a.next + 1) (hv : p.value = some v) (hi : LowestFreeIs s i) (hw : NotOpenFor s p.word)
    (hd : 1 ≤ s.cmu.settings.idleDelay) (hn : NoneAtAnswer s) (hre : s.cmu.restarting = false)
    (hc : ¬ (p.op = .replace ∧ withCovered 0 p.slot = p.format.fullCoverage)) :
    continueWrite s a =
      { s with
        mb := s.mb.set i (some ⟨.opened (.count (8 * s.cmu.settings.idleDelay)), p.word, p.format, p.op, withSlot p.format 0 p.slot v,
          withCovered 0 p.slot, nextOrder s, p.origin⟩)
        ral := ralReported s.ral p.word
        hpc := ⟨if s.inp.hreq then .answered else .idle, if s.inp.hreq then some { a with next := a.next + 1 } else none, true, false, 0⟩ } := by
  have hplaced : placePixel s p = .accepted { s with mb := s.mb.set i (some (openedEntry s p)), ral := ralReported s.ral p.word } := by
    rw [placePixel_of_notOpen hw, placeInFree_of_free hi, openPixel_eq, if_neg hc, Ral.placed_eq_reported]
  rw [continueWrite_of_accepted hp hplaced, continueWrite_of_end (by simp [hlast]), answer_eq]
  refine (completionNotification_of_none (by exact hre) fun k e he => ?_).trans (by rw [openedEntry_eq hv hd])
  rw [Option.mem_def, openedEntry_eq hv hd] at he
  change (s.mb.set i _)[k] = some e at he
  rw [mb_set] at he
  split at he
  · cases he
    rfl
  · exact hn k e he

/-- Settles O35: the waiting pixel is the last of its write. -/
theorem waitingPixelOpensTheFreedEntry : Obligations.WaitingPixelOpensTheFreedEntry := by
  intro s a before p v i hr hst ha hlist hnext hv hi hw hd hn hre hc
  have hlen : a.list.length = a.next + 1 := by simp [hlist, hnext]
  have hp : a.list[a.next]? = some (.pixel p) := by simp [hlist, hnext]
  refine ⟨nextOrder s, fun k e he => order_lt_nextOrder he, ?_⟩
  rw [exec_waitingPlacementTaken hr hst ha (by omega) ⟨i, hi.1⟩, continueWrite_of_last hp hlen hv hi hw hd hn hre hc, hnext]

/-! ## The answer of a read -/

theorem exec_readAnswer_of_complete {s : State} {g : Gather} (hr : s.inp.rstn = true) (hst : s.hpc.state = .gathering) (hg : s.rg = some g)
    (hc : g.complete = true) : exec .readAnswer s = .next (finishRead s g) := by
  have hdue := readDue_iff.mpr ⟨hst, g, hg, hc⟩
  change execReadAnswer s = _
  rw [execReadAnswer, if_pos ⟨hr, hdue⟩, answerRead, if_pos hdue]
  simp only [hg]

theorem Gather.complete_iff {g : Gather} : g.complete = true ↔ ∀ x ∈ g.words, x.isQueued = false := by
  simp [Gather.complete]

/-- The read answered, before the RAL is notified (R131). -/
def readAnswered (s : State) (g : Gather) : State :=
  answer { s with rg := none } g.anyFailed (if g.anyFailed then 0 else g.assembled)

theorem readAnswered_eq {s : State} {a : AccessRecord} (ha : s.hpc.access = some a) (g : Gather) :
    readAnswered s g =
      { s with
        rg := none
        hpc := ⟨if s.inp.hreq then .answered else .idle, if s.inp.hreq then some a else none, true, g.anyFailed,
          if g.anyFailed then 0 else g.assembled⟩ } := by
  simp only [readAnswered, answer, ha]

/-- A read that is not of a stream region notifies nobody (R135). -/
theorem finishRead_of_mapped {s : State} {g : Gather} {a : AccessRecord} (ha : s.hpc.access = some a)
    (h : ∀ r ∈ a.snapshot, r.kind = .mapped) : finishRead s g = readAnswered s g := by
  simp only [finishRead, ha]
  split
  · rw [if_neg (by simp [h _ ‹_›])]
    rfl
  · rfl

/-- A read of a stream region notifies the RAL (R135). -/
theorem finishRead_of_stream {s : State} {g : Gather} {a : AccessRecord} {n : Fin 8} {r : Region} (ha : s.hpc.access = some a)
    (hcl : a.claimant = some (.region n)) (hsn : a.snapshot = some r) (hk : r.kind = .stream) :
    finishRead s g = streamReadNotification (readAnswered s g) n r := by
  simp only [finishRead, ha, hcl, hsn, hk, if_true]
  rfl

theorem prefetchNotNeeded_eq_false {s : State} {w : Nat} :
    prefetchNotNeeded s w = false ↔ s.ral.prefetch = none ∧ s.ral.latch.map Latch.word ≠ some w := by
  unfold prefetchNotNeeded
  cases s.ral.latch <;> simp

/-- A prefetch is issued exactly when R135 and R136 ask for it. -/
theorem streamReadNotification_eq (s : State) (n : Fin 8) (r : Region) :
    streamReadNotification s n r =
      if (r.readAhead = true ∧ r.revisit = false ∧ s.cmu.restarting = false ∧ (s.rt[n]).enabled = true ∧ (s.rt[n]).kind = .stream)
          ∧ s.ral.prefetch = none ∧ s.ral.latch.map Latch.word ≠ some ((s.rt[n]).translate (s.rt[n]).cursor).word then
        issuePrefetch s n ((s.rt[n]).translate (s.rt[n]).cursor).word
      else s := by
  have hneeded := prefetchNotNeeded_eq_false (s := s) (w := ((s.rt[n]).translate (s.rt[n]).cursor).word)
  simp only [streamReadNotification, Bool.not_eq_true]
  split
  · rename_i hasks
    split
    · rename_i hnot
      exact (if_neg fun h => absurd hnot (Bool.eq_false_iff.mp (hneeded.mpr h.2))).symm
    · rename_i hneed
      exact (if_pos ⟨hasks, hneeded.mp (Bool.eq_false_iff.mpr hneed)⟩).symm
  · rename_i hno
    exact (if_neg fun h => hno h.1).symm

/-- A prefetch of a word that no OPEN entry holds (R136). -/
theorem issuePrefetch_of_notOpen {s : State} {w : Nat} (h : NotOpenFor s w) (n : Fin 8) :
    issuePrefetch s n w = { s with mq := s.mq ++ [.prefetch w (.region n)], ral := ⟨none, some ⟨w, false⟩⟩ } := by
  have hnone : openEntryFor { s with ral := { s.ral with latch := none } } w = none := openEntryFor_eq_none.mpr h
  simp only [issuePrefetch, closeForRead, hnone, appendItem]

/-- A prefetch of a word that an OPEN entry holds closes that entry first (R96, R136). -/
theorem issuePrefetch_of_open {s : State} {w : Nat} {i : Fin 8} {e : Entry} (hone : OneOpenPerWord s) (he : s.mb[i] = some e)
    (ho : e.isOpen = true) (hw : e.word = w) (n : Fin 8) :
    issuePrefetch s n w =
      { s with
        mb := s.mb.set i (some { e with state := .closed })
        mq := s.mq ++ [.entry i, .prefetch w (.region n)]
        ral := ⟨none, some ⟨w, false⟩⟩ } := by
  have hsome : openEntryFor { s with ral := { s.ral with latch := none } } w = some i := openEntryFor_of_open (by exact hone) he ho hw
  have hclose := closeEntry_of_open (s := { s with ral := { s.ral with latch := none } }) he ho
  simp only [issuePrefetch, closeForRead, hsome, hclose, appendItem, List.append_assoc, List.cons_append, List.nil_append]

/-- Settles O33: the answer, and after a stream read the prefetch when it is asked for. -/
theorem completeReadIsAnswered : Obligations.CompleteReadIsAnswered := by
  intro s g a hr hst hg hc ha failed answered
  have hrow := exec_readAnswer_of_complete hr hst hg (Gather.complete_iff.mpr hc)
  have hans : readAnswered s g = answered := readAnswered_eq ha g
  refine ⟨fun hm => by rw [hrow, finishRead_of_mapped ha hm, hans], ?_⟩
  intro n r hcl hsn hk live word asked
  have hasked : asked ↔
      (r.readAhead = true ∧ r.revisit = false ∧ s.cmu.restarting = false ∧ live.enabled = true ∧ live.kind = .stream)
        ∧ s.ral.prefetch = none ∧ s.ral.latch.map Latch.word ≠ some word := by simp only [asked, and_assoc]
  have hnotified : exec .readAnswer s = .next (streamReadNotification answered n r) := by rw [hrow, finishRead_of_stream ha hcl hsn hk, hans]
  rw [hnotified, streamReadNotification_eq]
  refine ⟨fun hno => ?_, fun hyes hw => ?_, fun hyes hone i e he ho hw => ?_⟩
  · rw [if_neg (by exact fun h => hno (hasked.mpr h))]
  · rw [if_pos (by exact hasked.mp hyes), issuePrefetch_of_notOpen (by exact hw)]
  · rw [if_pos (by exact hasked.mp hyes), issuePrefetch_of_open (by exact hone) (by exact he) ho (by exact hw)]

end Sys2Proof.Machine
end

-- ==== The gather of a read ====
section
/-! PROOFS. How a read gathers its words (R96, R128, R129): each distinct word once and in order, from the latch or by a READ item that stands
behind the entry of the word. -/

namespace Sys2Proof.Machine

/-! ## The words of a list -/

/-- The word of a PIXEL entry of a list (R57). -/
def ListEntry.word? : ListEntry → Option Nat
  | .pixel p => some p.word
  | .tail _ => none

/-- The distinct words are the words of the list without repetitions, in order of first appearance (R128). -/
theorem distinctWords_eq (l : List ListEntry) : distinctWords l = (l.filterMap ListEntry.word?).eraseDups := by
  induction l using List.reverseRecOn with
  | nil => rfl
  | append_singleton l x ih =>
    rw [List.filterMap_append, List.eraseDups_append, ← ih]
    cases x with
    | tail lane =>
      change distinctWords (l ++ [.tail lane]) = distinctWords l ++ []
      rw [distinctWords_concat_tail, List.append_nil]
    | pixel p =>
      have hmem : p.word ∈ distinctWords l ↔ p.word ∈ l.filterMap ListEntry.word? := by rw [ih, List.mem_eraseDups]
      change distinctWords (l ++ [.pixel p]) = distinctWords l ++ ([p.word].removeAll (l.filterMap ListEntry.word?)).eraseDups
      rw [distinctWords_concat_pixel]
      by_cases h : p.word ∈ distinctWords l
      · have hnone : [p.word].removeAll (l.filterMap ListEntry.word?) = [] := by simpa [List.removeAll] using hmem.mp h
        rw [if_pos (by simpa using h), hnone]
        exact (List.append_nil _).symm
      · have hone : [p.word].removeAll (l.filterMap ListEntry.word?) = [p.word] := by simpa [List.removeAll] using hmem.not.mp h
        rw [if_neg (by simpa using h), hone]
        rfl

theorem mem_distinctWords {l : List ListEntry} {p : Pixel} (h : .pixel p ∈ l) : p.word ∈ distinctWords l := by
  rw [distinctWords_eq, List.mem_eraseDups]
  exact List.mem_filterMap.mpr ⟨_, h, rfl⟩

/-! ## The word slots -/

/-- The state of a word at the claim: a copy of the latch's, or QUEUED (R129). -/
def Ral.resolved (r : Ral) (w : Nat) : WordState :=
  match r.latch with
  | some l => if l.word = w then .latchHit l.data else .queued
  | none => .queued

theorem Ral.resolved_of_hit {r : Ral} {w : Nat} {l : Latch} (hl : r.latch = some l) (hw : l.word = w) :
    r.resolved w = .latchHit l.data := by simp only [resolved, hl, if_pos hw]

theorem Ral.resolved_of_miss {r : Ral} {w : Nat} (h : r.latch.map Latch.word ≠ some w) : r.resolved w = .queued := by
  unfold resolved
  split
  · rw [if_neg fun hw => h (by simp [*])]
  · rfl

theorem resolveWords_cons_hit {s : State} {o : Origin} {k w : Nat} {l : Latch} (hl : s.ral.latch = some l) (hw : l.word = w) (ws : List Nat) :
    resolveWords s o k (w :: ws) =
      ((resolveWords s o (k + 1) ws).1, ⟨w, .latchHit l.data⟩ :: (resolveWords s o (k + 1) ws).2) := by
  simp only [resolveWords, hl, if_pos hw]

theorem resolveWords_cons_miss {s : State} {o : Origin} {k w : Nat} (h : s.ral.latch.map Latch.word ≠ some w) (ws : List Nat) :
    resolveWords s o k (w :: ws) =
      ((resolveWords (appendItem (closeForRead s w) (.gather w k o)) o (k + 1) ws).1,
        ⟨w, .queued⟩ :: (resolveWords (appendItem (closeForRead s w) (.gather w k o)) o (k + 1) ws).2) := by
  cases hl : s.ral.latch with
  | none => simp only [resolveWords, hl]
  | some l => simp only [resolveWords, hl, if_neg fun hw : l.word = w => h (by simp [hl, hw])]

/-- Neither a read close nor a READ item touches the latch. -/
theorem readBehind_ral (s : State) (w : Nat) (x : Item) : (appendItem (closeForRead s w) x).ral = s.ral := by
  rw [appendItem, (closeForRead_closesOnly s w).frame]

/-- Each word's slot is what the latch of the claim makes of it (R129). -/
theorem resolveWords_slots (o : Origin) (ws : List Nat) (s : State) (k : Nat) :
    (resolveWords s o k ws).2 = ws.map fun w => ⟨w, s.ral.resolved w⟩ := by
  induction ws generalizing s k with
  | nil => rfl
  | cons w ws ih =>
    by_cases h : s.ral.latch.map Latch.word = some w
    · obtain ⟨l, hl, hw⟩ := Option.map_eq_some_iff.mp h
      rw [resolveWords_cons_hit hl hw, ih, List.map_cons, Ral.resolved_of_hit hl hw]
    · rw [resolveWords_cons_miss h, ih, List.map_cons, Ral.resolved_of_miss h, readBehind_ral]

/-- A pixel's slot has its word's index, and waits exactly when the latch does not hold the word (R128, R129). -/
theorem pixelSlotOf_resolved {r : Ral} {ws : List Nat} {p : Pixel} (h : p.word ∈ ws) :
    pixelSlotOf (ws.map fun w => ⟨w, r.resolved w⟩) (.pixel p) =
      .pixel p.lane p.word p.slot (ws.idxOf p.word) (if r.latch.map Latch.word = some p.word then .done else .wait) := by
  have hindex : ((ws.map fun w => (⟨w, r.resolved w⟩ : WordSlot)).findIdx fun x => decide (x.word = p.word)) = ws.idxOf p.word := by
    rw [List.findIdx_map, List.idxOf]
    congr 1
  have hslot : (ws.map fun w => (⟨w, r.resolved w⟩ : WordSlot))[ws.idxOf p.word]? = some ⟨p.word, r.resolved p.word⟩ := by
    rw [List.getElem?_map, List.getElem?_idxOf h, Option.map_some]
  simp only [pixelSlotOf, hindex, hslot, Option.all_some]
  by_cases hl : r.latch.map Latch.word = some p.word
  · obtain ⟨l, hl', hw⟩ := Option.map_eq_some_iff.mp hl
    rw [if_pos hl, Ral.resolved_of_hit hl' hw]
    rfl
  · rw [if_neg hl, Ral.resolved_of_miss hl]
    rfl

/-! ## The items behind the entries -/

/-- From `s` to `t` entries close and these items join the tail: an entry OPEN after is that entry before, and an entry OPEN before is still so
or its item has joined. -/
structure ClosesBehind (s t : State) (items : List Item) : Prop where
  queue : t.mq = s.mq ++ items
  old : ∀ i : Fin 8, ∀ e ∈ t.mb[i], e.isOpen = true → s.mb[i] = some e
  gone : ∀ i : Fin 8, ∀ e ∈ s.mb[i], e.isOpen = true → t.mb[i] = some e ∨ .entry i ∈ items

theorem ClosesBehind.refl (s : State) : ClosesBehind s s [] := ⟨(List.append_nil _).symm, fun _ _ h _ => h, fun _ _ h _ => .inl h⟩

theorem ClosesBehind.trans {s t u : State} {l m : List Item} (h : ClosesBehind s t l) (k : ClosesBehind t u m) :
    ClosesBehind s u (l ++ m) where
  queue := by rw [k.queue, h.queue, List.append_assoc]
  old i e he ho := h.old i e (k.old i e he ho) ho
  gone i e he ho := by
    obtain ht | hl := h.gone i e he ho
    · exact (k.gone i e ht ho).imp_right fun hm => List.mem_append_right l hm
    · exact .inr (List.mem_append_left m hl)

theorem ClosesBehind.append (s : State) (x : Item) : ClosesBehind s (appendItem s x) [x] := ⟨rfl, fun _ _ h _ => h, fun _ _ h _ => .inl h⟩

theorem closeEntry_closesBehind (s : State) (i : Fin 8) : ∃ l, ClosesBehind s (closeEntry s i) l := by
  by_cases h : ∃ e, s.mb[i] = some e ∧ e.isOpen = true
  · obtain ⟨e, he, ho⟩ := h
    rw [closeEntry_of_open he ho]
    refine ⟨[.entry i], rfl, fun j f hf hfo => ?_, fun j f hf hfo => ?_⟩
    · change (s.mb.set i (some e.close))[j] = some f at hf
      rw [mb_set] at hf
      split at hf
      · cases hf
        cases hfo
      · exact hf
    · by_cases hij : i = j
      · exact .inr (by simp [hij])
      · exact .inl ((mb_set_other _ hij _).trans hf)
  · rw [closeEntry_of_not_open fun e he => Bool.eq_false_of_not_eq_true fun ho => h ⟨e, he, ho⟩]
    exact ⟨[], .refl s⟩

theorem closeForRead_closesBehind (s : State) (w : Nat) : ∃ l, ClosesBehind s (closeForRead s w) l := by
  unfold closeForRead
  split
  · exact closeEntry_closesBehind s _
  · exact ⟨[], .refl s⟩

theorem ClosesBehind.onePerWord {s t : State} {l : List Item} (h : ClosesBehind s t l) (hs : OneOpenPerWord s) : OneOpenPerWord t :=
  fun i j e he f hf heo hfo hw => hs i j e (h.old i e he heo) f (h.old j f hf hfo) heo hfo hw

theorem ClosesBehind.notOpenFor {s t : State} {l : List Item} (h : ClosesBehind s t l) {w : Nat} (hs : NotOpenFor s w) : NotOpenFor t w :=
  fun i e he ho => hs i e (h.old i e he ho) ho

/-- A word is read behind its entry (R96). -/
theorem readBehind_closesBehind (s : State) (w : Nat) (x : Item) : ∃ l, ClosesBehind s (appendItem (closeForRead s w) x) l := by
  obtain ⟨l, h⟩ := closeForRead_closesBehind s w
  exact ⟨l ++ [x], h.trans (.append _ x)⟩

theorem resolveWords_closesBehind (o : Origin) (ws : List Nat) (s : State) (k : Nat) :
    ∃ l, ClosesBehind s (resolveWords s o k ws).1 l := by
  induction ws generalizing s k with
  | nil => exact ⟨[], .refl s⟩
  | cons w ws ih =>
    by_cases h : s.ral.latch.map Latch.word = some w
    · obtain ⟨l, hl, hw⟩ := Option.map_eq_some_iff.mp h
      rw [resolveWords_cons_hit hl hw]
      exact ih s (k + 1)
    · rw [resolveWords_cons_miss h]
      obtain ⟨l, hl⟩ := readBehind_closesBehind s w (.gather w k o)
      obtain ⟨m, hm⟩ := ih (appendItem (closeForRead s w) (.gather w k o)) (k + 1)
      exact ⟨l ++ m, hl.trans hm⟩

/-- A word that the latch does not hold is read behind whatever entry held it (R96, R129). -/
theorem resolveWords_at {o : Origin} {ws : List Nat} {s : State} {k j w : Nat} (hone : OneOpenPerWord s) (hj : ws[j]? = some w)
    (hmiss : s.ral.latch.map Latch.word ≠ some w) :
    ∃ t l m, ClosesBehind s t l ∧ NotOpenFor t w ∧ ClosesBehind (appendItem t (.gather w (k + j) o)) (resolveWords s o k ws).1 m := by
  induction ws generalizing s k j with
  | nil => simp at hj
  | cons v ws ih =>
    cases j with
    | zero =>
      obtain rfl : v = w := by simpa using hj
      rw [resolveWords_cons_miss hmiss]
      obtain ⟨l, hl⟩ := closeForRead_closesBehind s v
      obtain ⟨m, hm⟩ := resolveWords_closesBehind o ws (appendItem (closeForRead s v) (.gather v k o)) (k + 1)
      exact ⟨closeForRead s v, l, m, hl, notOpenFor_closeForRead hone v, hm⟩
    | succ j =>
      have hj : ws[j]? = some w := by simpa using hj
      rw [show k + (j + 1) = k + 1 + j by omega]
      by_cases h : s.ral.latch.map Latch.word = some v
      · obtain ⟨l, hl, hw⟩ := Option.map_eq_some_iff.mp h
        rw [resolveWords_cons_hit hl hw]
        exact ih hone hj hmiss
      · rw [resolveWords_cons_miss h]
        obtain ⟨l, hl⟩ := readBehind_closesBehind s v (.gather v k o)
        obtain ⟨t, m, n, hm, hw, hn⟩ := ih (k := k + 1) (hl.onePerWord hone) hj (by rwa [readBehind_ral])
        exact ⟨t, l ++ m, n, hl.trans hm, hw, hn⟩

/-- Settles O31: the word slots and pixel slots from the words of the list, and each READ item from its place in them. -/
theorem gatherReadsBehindTheEntries : Obligations.GatherReadsBehindTheEntries := by
  intro s origin f l hone words
  have hwords : distinctWords l = words := by
    rw [distinctWords_eq]
    exact congrArg (fun word => (l.filterMap word).eraseDups) (funext fun x => by cases x <;> rfl)
  have hslots : (resolveWords s origin 0 (distinctWords l)).2 = words.map fun w => ⟨w, s.ral.resolved w⟩ := by
    rw [resolveWords_slots, hwords]
  refine ⟨⟨f, l.map (pixelSlotOf (words.map fun w => ⟨w, s.ral.resolved w⟩)), words.map fun w => ⟨w, s.ral.resolved w⟩⟩, ?record, rfl, ?words,
    ?pixels, fun x hx c hc hcx => ?hit, fun k x hx hmiss => ?behind⟩
  case record => simp only [planRead, hslots]
  case words => simp [Function.comp_def]
  case pixels =>
    refine List.map_congr_left fun x hx => ?_
    cases x with
    | tail lane => rfl
    | pixel p => exact pixelSlotOf_resolved (hwords ▸ mem_distinctWords hx)
  case hit =>
    obtain ⟨w, -, rfl⟩ := List.mem_map.mp hx
    exact Ral.resolved_of_hit hc hcx
  case behind =>
    rw [List.getElem?_map] at hx
    obtain ⟨w, hw, rfl⟩ := Option.map_eq_some_iff.mp hx
    obtain ⟨t, m, n, hm, hnot, hn⟩ := resolveWords_at (o := origin) (k := 0) hone hw hmiss
    have hmq : (planRead s origin f l).mq = (resolveWords s origin 0 words).1.mq := by rw [← hwords]; rfl
    have hmb : (planRead s origin f l).mb = (resolveWords s origin 0 words).1.mb := by rw [← hwords]; rfl
    refine ⟨Ral.resolved_of_miss hmiss, fun i e he hew => ?_, m, n, ?_, fun i e he ho hew => ?_⟩
    · rw [hmb] at he
      exact Bool.eq_false_of_not_eq_true fun ho => hn.notOpenFor (w := w) hnot i e he ho hew
    · rw [hmq, hn.queue, appendItem, hm.queue, Nat.zero_add, List.append_assoc]
      rfl
    · exact (hm.gone i e he ho).resolve_left fun ht => hnot i e ht ho hew

end Sys2Proof.Machine
end

-- ==== Requests claimed ====
section
/-! PROOFS. A request with a claimant (R53 to R62): what a region refuses, the pixel list that each claimant forms, and how the access then goes to
work on its list. -/

namespace Sys2Proof.Machine

/-! ## Going to work -/

/-- A write with no pixel left is answered at once (R61). -/
theorem startAccess_of_empty_write {s : State} {a : AccessRecord} (hd : a.direction = .write) (hl : a.list = []) (o : Origin) (f : Format) :
    startAccess s a o f = answer { s with hpc := { s.hpc with access := some a } } false 0 := by
  simp only [startAccess, hd, hl, if_true]

/-- Any other write begins to place its pixels (R60). -/
theorem startAccess_of_write {s : State} {a : AccessRecord} (hd : a.direction = .write) (hl : a.list ≠ []) (o : Origin) (f : Format) :
    startAccess s a o f = continueWrite { s with hpc := { s.hpc with state := .placing, access := some a } } a := by
  simp only [startAccess, hd, if_neg hl]

/-- A read gathers its list, and is answered when that leaves nothing QUEUED (R62, R128, R131). -/
theorem startAccess_of_read {s : State} {a : AccessRecord} (hd : a.direction = .read) (o : Origin) (f : Format) :
    startAccess s a o f = answerRead (planRead { s with hpc := { s.hpc with state := .gathering, access := some a } } o f a.list) := by
  simp only [startAccess, hd]

theorem Ral.resolved_isQueued {r : Ral} {w : Nat} : WordSlot.isQueued ⟨w, r.resolved w⟩ = false ↔ r.latch.map Latch.word = some w := by
  by_cases h : r.latch.map Latch.word = some w
  · obtain ⟨l, hl, hw⟩ := Option.map_eq_some_iff.mp h
    rw [Ral.resolved_of_hit hl hw]
    exact iff_of_true rfl h
  · rw [Ral.resolved_of_miss h]
    exact iff_of_false (by simp [WordSlot.isQueued]) h

/-- The record that a read fills (R128, R129). -/
theorem planRead_rg (s : State) (o : Origin) (f : Format) (l : List ListEntry) :
    (planRead s o f l).rg =
      some ⟨f, l.map (pixelSlotOf ((distinctWords l).map fun w => ⟨w, s.ral.resolved w⟩)),
        (distinctWords l).map fun w => ⟨w, s.ral.resolved w⟩⟩ := by
  simp only [planRead, resolveWords_slots]

/-- A read is complete as soon as it is planned exactly when the latch serves every pixel of its list (R129, R131). -/
theorem readDue_planRead {s : State} {o : Origin} {f : Format} {l : List ListEntry} (hst : s.hpc.state = .gathering) :
    readDue (planRead s o f l) = true ↔ ∀ p, .pixel p ∈ l → s.ral.latch.map Latch.word = some p.word := by
  have hst' : (planRead s o f l).hpc.state = .gathering := by rw [planRead_frame, hst]
  rw [readDue_iff, planRead_rg]
  simp only [hst', true_and, Option.some.injEq, exists_eq_left', Gather.complete_iff, List.forall_mem_map, Ral.resolved_isQueued]
  refine ⟨fun h p hp => h _ (mem_distinctWords hp), fun h w hw => ?_⟩
  rw [distinctWords_eq, List.mem_eraseDups, List.mem_filterMap] at hw
  obtain ⟨x, hx, hxw⟩ := hw
  cases x with
  | tail lane => cases hxw
  | pixel p =>
    obtain rfl : p.word = w := Option.some.inj hxw
    exact h p hx

theorem answerRead_of_not_due {s : State} (h : ¬ readDue s = true) : answerRead s = s := if_neg h

theorem exec_readAnswer_of_due {s : State} (hr : s.inp.rstn = true) (h : readDue s = true) : exec .readAnswer s = .next (answerRead s) :=
  if_pos ⟨hr, h⟩

/-- How a claimed access goes to work, in the words of the claims (R60, R62, R128, R131). -/
theorem goesToWork_of_startAccess {out : Host.Outcome State Fault Refusal} {claimed : HpcState → State} {u : State} {a : AccessRecord}
    {o : Origin} {f : Format} (hout : out = .next (startAccess u a o f)) (hr : u.inp.rstn = true) (hne : a.list ≠ [])
    (hclaimed : ∀ st, claimed st = { u with hpc := { u.hpc with state := st, access := some a } }) : GoesToWork out claimed a o f := by
  have hserved : (∀ w ∈ (a.list.filterMap ListEntry.word?), u.ral.latch.map Latch.word = some w) ↔
      ∀ p, .pixel p ∈ a.list → u.ral.latch.map Latch.word = some p.word := by
    refine ⟨fun h p hp => h _ (List.mem_filterMap.mpr ⟨_, hp, rfl⟩), fun h w hw => ?_⟩
    obtain ⟨x, hx, hxw⟩ := List.mem_filterMap.mp hw
    cases x with
    | tail lane => cases hxw
    | pixel p =>
      obtain rfl : p.word = w := Option.some.inj hxw
      exact h p hx
  have hdue := readDue_planRead (s := claimed .gathering) (o := o) (f := f) (l := a.list) (by rw [hclaimed])
  unfold GoesToWork
  intro words served gathered
  have hwords : words = a.list.filterMap ListEntry.word? :=
    congrArg (fun word => a.list.filterMap word) (funext fun x => by cases x <;> rfl)
  have hgathered : served ↔ readDue gathered = true := by
    change (∀ w ∈ words, (claimed .gathering).ral.latch.map Latch.word = some w) ↔ _
    rw [hdue, hwords, hclaimed]
    exact hserved
  have hread (hd : a.direction = .read) : startAccess u a o f = answerRead gathered := by
    rw [startAccess_of_read hd, ← hclaimed]
  refine ⟨fun hd => ?_, fun hd hs => ?_, fun hd hs => ?_⟩
  · rw [hout, startAccess_of_write hd hne, hclaimed]
  · rw [hout, hread hd, answerRead_of_not_due (hgathered.not.mp hs)]
  · have hrstn : gathered.inp.rstn = true := by
      change (planRead (claimed .gathering) o f a.list).inp.rstn = true
      rw [planRead_frame, hclaimed]
      exact hr
    rw [exec_readAnswer_of_due hrstn (hgathered.mp hs), hout, hread hd]

/-! ## The claim of a region -/

theorem takeRequest_of_region {s : State} {n : Fin 8} (hl : s.inp.lines.hlane ≠ 0)
    (hc : claimantOf s (4 * s.inp.lines.ha.toNat) = some (.region n)) : takeRequest s = claimRegion s s.inp.lines n := by
  simp only [takeRequest, if_neg hl, hc]

/-- A request that a region claims, seen in IDLE on a quiet state (R53). -/
theorem exec_of_region {s : State} {write : Bool} {a : BitVec 22} {lanes : BitVec 4} {d : HostWord} {n : Fin 8} (hq : Quiet s)
    (hi : s.hpc.state = .idle) (hre : s.cmu.restarting = false) (hl : lanes ≠ 0) (hn : LowestCovering s (4 * a.toNat) n) :
    exec (.hostRequest write a lanes d) s =
      .next (claimRegion (requestSeen s ⟨write, a, lanes, d⟩) ⟨write, a, lanes, d⟩ n) := by
  rw [exec_hostRequest_of_idle hq hi, seeRequest_of_not_restarting (by simpa using hre),
    takeRequest_of_region (n := n) (by simpa using hl) (by simpa using claimantOf_of_lowestCovering hn)]
  rfl

theorem accessRefused_iff {x : Access} {write : Bool} :
    accessRefused x (if write then .write else .read) = true ↔ (x = .ro ∧ write = true) ∨ (x = .wo ∧ write = false) := by
  cases x <;> cases write <;> decide

theorem splitsPair_iff {lanes : BitVec 4} :
    splitsPair lanes = true ↔ lanes.getLsbD 0 ≠ lanes.getLsbD 1 ∨ lanes.getLsbD 2 ≠ lanes.getLsbD 3 := by
  simp [splitsPair, laneOn]

/-- The access record of a region's claim, before its list is formed (R50, R53). -/
theorem claimRecord_region (write : Bool) (a : BitVec 22) (lanes : BitVec 4) (d : HostWord) (n : Fin 8) (r : Region) :
    claimRecord ⟨write, a, lanes, d⟩ (some (.region n)) (some r) =
      ⟨if write then .write else .read, 4 * a.toNat, lanes, if write then d else 0, some (.region n), some r, [], 0⟩ := rfl

/-- Settles O24: the access check comes first, then the pair check, and both refusals leave all but the record, the answer and the log. -/
theorem regionRefusesTheRequest : Obligations.RegionRefusesTheRequest := by
  intro s write a lanes d n hq hi hre hl hn r denied split refused
  have hdenied : accessRefused r.access (if write then .write else .read) = true ↔ denied := accessRefused_iff
  have hsplit : (r.format = .p16 ∧ splitsPair lanes = true) ↔ split := and_congr_right fun _ => splitsPair_iff
  rw [exec_of_region hq hi hre hl hn]
  refine ⟨fun h => ?_, fun h hs => ?_⟩
  · have href : claimRegion (requestSeen s ⟨write, a, lanes, d⟩) ⟨write, a, lanes, d⟩ n = refuseAccess (requestSeen s ⟨write, a, lanes, d⟩)
        (claimRecord ⟨write, a, lanes, d⟩ (some (.region n)) (some r)) .accessDenied (some (.region n)) := if_pos (hdenied.mpr h)
    rw [href, refuseAccess_of_hreq (requestSeen_hreq ..)]
    rfl
  · have href : claimRegion (requestSeen s ⟨write, a, lanes, d⟩) ⟨write, a, lanes, d⟩ n = refuseAccess (requestSeen s ⟨write, a, lanes, d⟩)
        (claimRecord ⟨write, a, lanes, d⟩ (some (.region n)) (some r)) .pixelSplit (some (.region n)) :=
      (if_neg (hdenied.not.mpr h)).trans (if_pos (hsplit.mpr hs))
    rw [href, refuseAccess_of_hreq (requestSeen_hreq ..)]
    rfl

section
variable {u : State} {write : Bool} {a : BitVec 22} {lanes : BitVec 4} {d : HostWord} {n : Fin 8} {r : Region} (hr : u.rt[n] = r)
  (hro : ¬ (r.access = .ro ∧ write = true)) (hwo : ¬ (r.access = .wo ∧ write = false))
  (hpair : r.format = .p16 → lanes.getLsbD 0 = lanes.getLsbD 1 ∧ lanes.getLsbD 2 = lanes.getLsbD 3)
include hr hro hwo hpair

/-- A claim that passes its checks by a MAPPED region goes to work on the list of its window offsets (R37 to R40, R53). -/
theorem claimRegion_of_mapped (hk : r.kind = .mapped) :
    claimRegion u ⟨write, a, lanes, d⟩ n =
      startAccess u
        ⟨if write then .write else .read, 4 * a.toNat, lanes, if write then d else 0, some (.region n), some r,
          mappedList r n write (4 * a.toNat) lanes d, 0⟩ (.region n) r.format := by
  subst hr
  have hdenied := mt accessRefused_iff.mp (not_or.mpr ⟨hro, hwo⟩)
  have hsplit : ¬ ((u.rt[n]).format = .p16 ∧ splitsPair lanes = true) := fun h => by
    obtain h' | h' := splitsPair_iff.mp h.2
    · exact h' (hpair h.1).1
    · exact h' (hpair h.1).2
  refine (if_neg hdenied).trans ((if_neg hsplit).trans ?_)
  simp only [hk]
  rfl

/-- And one by a STREAM region on the list of its reserved positions, with the cursor moved (R45, R69 to R71). -/
theorem claimRegion_of_stream (hk : r.kind = .stream) :
    claimRegion u ⟨write, a, lanes, d⟩ n =
      startAccess
        { u with
          rt := u.rt.set n (if write = false ∧ r.revisit = true then r
            else { r with cursor := r.advance (enabledUnits r.format lanes).length r.cursor }) }
        ⟨if write then .write else .read, 4 * a.toNat, lanes, if write then d else 0, some (.region n), some r,
          streamList r n write lanes d (r.reserveFrom (enabledUnits r.format lanes).length r.cursor), 0⟩ (.region n) r.format := by
  subst hr
  have hdenied := mt accessRefused_iff.mp (not_or.mpr ⟨hro, hwo⟩)
  have hsplit : ¬ ((u.rt[n]).format = .p16 ∧ splitsPair lanes = true) := fun h => by
    obtain h' | h' := splitsPair_iff.mp h.2
    · exact h' (hpair h.1).1
    · exact h' (hpair h.1).2
  refine (if_neg hdenied).trans ((if_neg hsplit).trans ?_)
  simp only [hk]
  rfl

end

end Sys2Proof.Machine
end

-- ==== Claims and their pixel lists ====
section
/-! PROOFS. The pixel list of each claimant (R6, R11, R37 to R40, R57 to R59, R69 to R71) and what the access does with it. -/

namespace Sys2Proof.Machine

/-! ## Lanes and values -/

theorem Format.sixteen_div_ppw (f : Format) : 16 / f.ppw = f.bits := by cases f <;> rfl

/-- The value at a lane is the low b bits of its host byte, or the 16 bits of its pair (R6). -/
theorem hostValue_eq (f : Format) (d : HostWord) (lane : Nat) :
    hostValue f d lane = (d >>> (8 * lane)).setWidth 16 &&& BitVec.ofNat 16 (2 ^ (16 / f.ppw) - 1) := by
  rw [f.sixteen_div_ppw]
  rfl

/-- Where no pair is split, the pairs of P16 are named by their lower lanes (R57, R66). -/
theorem enabledUnits_eq {f : Format} {lanes : BitVec 4}
    (h : f = .p16 → lanes.getLsbD 0 = lanes.getLsbD 1 ∧ lanes.getLsbD 2 = lanes.getLsbD 3) :
    enabledUnits f lanes = (if f = .p16 then [0, 2] else [0, 1, 2, 3]).filter fun j => lanes.getLsbD j := by
  by_cases hf : f = .p16
  · subst hf
    obtain ⟨h01, h23⟩ := h rfl
    refine List.filter_congr fun j hj => ?_
    have hj' : j = 0 ∨ j = 2 := by simpa using hj
    obtain rfl | rfl := hj'
    · change (lanes.getLsbD 0 && lanes.getLsbD 1) = lanes.getLsbD 0
      rw [← h01, Bool.and_self]
    · change (lanes.getLsbD 2 && lanes.getLsbD 3) = lanes.getLsbD 2
      rw [← h23, Bool.and_self]
  · rw [if_neg hf]
    cases f <;> first | rfl | exact absurd rfl hf

/-- With a lane enabled, and no pair split for P16, there is a lane or pair to serve (R51, R56). -/
theorem enabledUnits_ne_nil {f : Format} {lanes : BitVec 4} (hl : lanes ≠ 0)
    (h : f = .p16 → lanes.getLsbD 0 = lanes.getLsbD 1 ∧ lanes.getLsbD 2 = lanes.getLsbD 3) : enabledUnits f lanes ≠ [] := by
  revert hl h
  cases f <;> revert lanes <;> decide

/-! ## Stream regions -/

/-- The positions reserved for a list of lanes are those from the cursor on, in order (R69). -/
theorem map_zip_reserveFrom {α : Type} (r : Region) (entry : Nat → Position → α) (l : List Nat) (p : Position) :
    (l.zip (r.reserveFrom l.length p)).map (fun u => entry u.1 u.2) = l.mapIdx fun k lane => entry lane (r.advance k p) := by
  induction l generalizing p with
  | nil => rfl
  | cons lane l ih =>
    rw [List.mapIdx_cons]
    exact congrArg _ (ih (r.successor p))

theorem streamList_eq (r : Region) (n : Fin 8) (write : Bool) (lanes : BitVec 4) (d : HostWord) :
    streamList r n write lanes d (r.reserveFrom (enabledUnits r.format lanes).length r.cursor) =
      (enabledUnits r.format lanes).mapIdx fun k lane => .pixel (regionPixel r n write d lane (r.advance k r.cursor)) :=
  map_zip_reserveFrom r (fun lane p => ListEntry.pixel (regionPixel r n write d lane p)) _ r.cursor

/-! ## The access record while HREQ is high -/

theorem continueWrite_access {s : State} (h : s.inp.hreq = true) (a : AccessRecord) :
    ∃ m, (continueWrite s a).hpc.access = some { a with next := m } := by
  refine ⟨a.next + (placeList s (a.list.drop a.next)).2, ?_⟩
  have hreq (m : Nat) : (withNext (placeList s (a.list.drop a.next)).1 a m).inp.hreq = true := by
    rw [withNext, placeList_frame]
    exact h
  dsimp only [continueWrite]
  split
  · rw [finishWrite, (completionNotification_closesOnly _).frame, answer_of_hreq (hreq _)]
    rfl
  · rfl

theorem answerRead_access {s : State} (h : s.inp.hreq = true) : (answerRead s).hpc.access = s.hpc.access := by
  unfold answerRead
  split
  · split
    · rw [finishRead_hpc, answer_of_hreq (by exact h)]
    · rfl
  · rfl

/-- Going to work keeps the access record but for the next pixel (R50, R60). -/
theorem startAccess_access {s : State} (h : s.inp.hreq = true) (a : AccessRecord) (o : Origin) (f : Format) :
    ∃ m, (startAccess s a o f).hpc.access = some { a with next := m } := by
  obtain hd | hd : a.direction = .write ∨ a.direction = .read := by cases a.direction <;> simp
  · by_cases hl : a.list = []
    · rw [startAccess_of_empty_write hd hl, answer_of_hreq (by exact h)]
      exact ⟨a.next, rfl⟩
    · rw [startAccess_of_write hd hl]
      exact continueWrite_access (by exact h) a
  · rw [startAccess_of_read hd, answerRead_access (by rw [planRead_frame]; exact h), planRead_frame]
    exact ⟨a.next, rfl⟩

/-- Settles O26: the list is that of the reserved positions, and the access goes to work with the cursor moved. -/
theorem streamClaimReservesAndMovesTheCursor : Obligations.StreamClaimReservesAndMovesTheCursor := by
  intro s write a lanes d n hq hi hre hl hn r units hk hro hwo hpair value entry access moved
  have hlist : streamList r n write lanes d (r.reserveFrom units.length r.cursor) = units.mapIdx entry := by
    rw [streamList_eq]
    congr 1
    funext k lane
    rw [regionPixel, hostValue_eq]
  have hmoved : (if write = false ∧ r.revisit = true then r else { r with cursor := r.advance units.length r.cursor }) = moved := by
    simp only [moved]
    split <;> rfl
  have hrow : exec (.hostRequest write a lanes d) s =
      .next (startAccess { requestSeen s ⟨write, a, lanes, d⟩ with rt := s.rt.set n moved } access (.region n) r.format) := by
    refine (exec_of_region hq hi hre hl hn).trans (congrArg _ ?_)
    refine (claimRegion_of_stream (u := requestSeen s ⟨write, a, lanes, d⟩) (r := r) rfl hro hwo hpair hk).trans ?_
    exact congrArg₂ (fun m x => startAccess { requestSeen s ⟨write, a, lanes, d⟩ with rt := s.rt.set n m } x (.region n) r.format) hmoved
      (congrArg (fun l => { access with list := l }) hlist)
  have hunits : units ≠ [] := enabledUnits_ne_nil hl hpair
  refine ⟨goesToWork_of_startAccess hrow hq.1 (by simpa [access] using hunits) fun st => rfl, ?_⟩
  obtain ⟨m, hm⟩ := startAccess_access (s := { requestSeen s ⟨write, a, lanes, d⟩ with rt := s.rt.set n moved }) rfl access (.region n) r.format
  refine ⟨_, _, hrow, by rw [startAccess_frame], hm, rfl, rfl, by simp [access], fun k lane hlane => ?_⟩
  refine ⟨⟨lane, (r.translate (r.advance k r.cursor)).word, (r.translate (r.advance k r.cursor)).slot, r.format, r.op, .region n,
    if write then some (value lane) else none⟩, ?_, rfl, rfl, rfl, rfl, rfl⟩
  change (units.mapIdx entry)[k.val]? = _
  rw [List.getElem?_mapIdx, hlane]
  rfl

/-! ## MAPPED regions -/

/-- A read of tail lanes alone gathers no word (R128). -/
theorem planRead_of_tails {l : List ListEntry} (h : ∀ p, .pixel p ∉ l) (s : State) (o : Origin) (f : Format) :
    planRead s o f l = { s with rg := some ⟨f, l.map (pixelSlotOf []), []⟩ } := by
  have hnone : distinctWords l = [] := by
    have hwords : l.filterMap ListEntry.word? = [] := List.filterMap_eq_nil_iff.mpr fun x hx => by
      cases x with
      | tail lane => rfl
      | pixel p => exact absurd hx (h p)
    rw [distinctWords_eq, hwords]
    rfl
  simp only [planRead, hnone, resolveWords]

/-- A record of tails alone has the read data 0 and no failure (R131). -/
theorem Gather.assembled_of_tails {g : Gather} (h : ∀ x ∈ g.pixels, ∃ lane, x = .tail lane) : g.anyFailed = false ∧ g.assembled = 0 := by
  refine ⟨List.any_eq_false.mpr fun x hx => ?_, BitVec.eq_of_getLsbD_eq fun i _ => ?_⟩
  · obtain ⟨lane, rfl⟩ := h x hx
    exact Bool.false_ne_true
  · refine (getLsbD_assembled g i).trans ((List.any_eq_false.mpr fun x hx => ?_).trans (by simp))
    obtain ⟨lane, rfl⟩ := h x hx
    simp [Gather.slotData]

theorem pixelSlotOf_of_tails {l : List ListEntry} (h : ∀ p, .pixel p ∉ l) :
    ∀ x ∈ l.map (pixelSlotOf []), ∃ lane, x = .tail lane := by
  intro x hx
  obtain ⟨y, hy, rfl⟩ := List.mem_map.mp hx
  cases y with
  | tail lane => exact ⟨lane, rfl⟩
  | pixel p => exact absurd hy (h p)

/-- A complete gather in hand, of a claimant that is not a stream region, is answered while HREQ is high (R131). -/
theorem answerRead_of_hreq {s : State} {g : Gather} {a : AccessRecord} (hreq : s.inp.hreq = true) (hst : s.hpc.state = .gathering)
    (hg : s.rg = some g) (hc : g.complete = true) (ha : s.hpc.access = some a) (hm : ∀ r ∈ a.snapshot, r.kind = .mapped) :
    answerRead s =
      { s with rg := none, hpc := ⟨.answered, some a, true, g.anyFailed, if g.anyFailed then 0 else g.assembled⟩ } := by
  rw [answerRead, if_pos (readDue_iff.mpr ⟨hst, g, hg, hc⟩)]
  simp only [hg]
  rw [finishRead_of_mapped ha hm, readAnswered_eq ha, if_pos hreq, if_pos hreq]

/-- Settles O27: the list is that of the window offsets, and the access goes to work on it. -/
theorem mappedClaimFormsItsPixelList : Obligations.MappedClaimFormsItsPixelList := by
  intro s write a lanes d n hq hi hre hl hn r hk hro hwo hpair units index place value entry list access claimed shown inLatch
  have hentry : mappedEntry r n write (4 * a.toNat) d = entry := by
    funext lane
    change (if index lane < r.width * r.height then _ else _) = _
    rw [regionPixel, hostValue_eq]
    rfl
  have hlist : mappedList r n write (4 * a.toNat) lanes d = list := by
    rw [mappedList, enabledUnits_eq hpair, hentry]
  have hrow : exec (.hostRequest write a lanes d) s =
      .next (startAccess (requestSeen s ⟨write, a, lanes, d⟩) access (.region n) r.format) := by
    refine (exec_of_region hq hi hre hl hn).trans (congrArg _ ?_)
    refine (claimRegion_of_mapped (u := requestSeen s ⟨write, a, lanes, d⟩) (r := r) rfl hro hwo hpair hk).trans ?_
    exact congrArg (fun l => startAccess (requestSeen s ⟨write, a, lanes, d⟩) { access with list := l } (.region n) r.format) hlist
  have hwrite (hw : write = true) : access.direction = .write := if_pos hw
  have hread (hw : write = false) : startAccess (requestSeen s ⟨write, a, lanes, d⟩) access (.region n) r.format =
      answerRead (planRead (claimed .gathering false) (.region n) r.format list) :=
    startAccess_of_read (if_neg (by simp [hw])) _ _
  have hunits (hw : write = false) : list = units.map entry := if_neg (by simp [hw])
  have hshown (lane : Nat) (h : shown lane) : ∃ p, entry lane = .pixel p ∧ p.word = (place lane).word := ⟨_, if_pos h, rfl⟩
  have htail (lane : Nat) (h : ¬ shown lane) : entry lane = .tail lane := if_neg h
  have hdue (hw : write = false) : readDue (planRead (claimed .gathering false) (.region n) r.format list) = true ↔
      ∀ lane ∈ units, shown lane → inLatch lane := by
    rw [readDue_planRead rfl, hunits hw]
    refine ⟨fun h lane hlane hs => ?_, fun h p hp => ?_⟩
    · obtain ⟨p, hp, hpw⟩ := hshown lane hs
      have hhit := h p (hp ▸ List.mem_map_of_mem hlane)
      rwa [hpw] at hhit
    · obtain ⟨lane, hlane, hpe⟩ := List.mem_map.mp hp
      by_cases hs : shown lane
      · obtain ⟨q, hq, hqw⟩ := hshown lane hs
        obtain rfl : q = p := ListEntry.pixel.inj (hq.symm.trans hpe)
        rw [hqw]
        exact h lane hlane hs
      · rw [htail lane hs] at hpe
        cases hpe
  refine ⟨fun hw hnil => ?_, fun hw hne => ?_, fun hw hnone => ?_, fun hw hmiss => ?_, fun hw hhit => ?_⟩
  · rw [hrow, startAccess_of_empty_write (hwrite hw) hnil, answer_of_hreq rfl]
    rfl
  · rw [hrow, startAccess_of_write (hwrite hw) hne]
    rfl
  · have hno (p : Pixel) : .pixel p ∉ list := fun hp => by
      rw [hunits hw] at hp
      obtain ⟨lane, hlane, hpe⟩ := List.mem_map.mp hp
      rw [htail lane (hnone lane hlane)] at hpe
      cases hpe
    have hkind : ∀ x ∈ access.snapshot, x.kind = .mapped := fun x hx => by
      cases hx
      exact hk
    obtain ⟨hfailed, hzero⟩ := Gather.assembled_of_tails (g := ⟨r.format, list.map (pixelSlotOf []), []⟩) (pixelSlotOf_of_tails hno)
    rw [hrow, hread hw, planRead_of_tails hno, answerRead_of_hreq rfl rfl rfl rfl rfl hkind, hfailed, hzero]
    rfl
  · obtain ⟨lane, hlane, hs, hnot⟩ := hmiss
    rw [hrow, hread hw, answerRead_of_not_due fun h => hnot ((hdue hw).mp h lane hlane hs)]
  · rw [hrow, hread hw, exec_readAnswer_of_due (by rw [planRead_frame]; exact hq.1) ((hdue hw).mpr hhit)]

end Sys2Proof.Machine
end

-- ==== Pass-through accesses, and what a request leaves ====
section
/-! PROOFS. Pass-through accesses (R11, R59): their pixel list byte by byte, and one byte written, read through the latch or queued; and what no
host request touches (R23, R31, R92, R109). -/

namespace Sys2Proof.Machine

/-! ## Bytes -/

/-- A pass-through value is one byte (R6, R11). -/
theorem hostValue_p8 (d : HostWord) (lane : Nat) : hostValue .p8 d lane = ((d >>> (8 * lane)).setWidth 8).setWidth 16 :=
  BitVec.eq_of_getLsbD_eq fun i hi => by
    rw [hostValue, BitVec.getLsbD_and, Format.getLsbD_maxValue, Bool.and_comm]
    simp only [BitVec.getLsbD_setWidth, BitVec.getLsbD_ushiftRight, hi, decide_true, Bool.true_and, Format.bits]
    rfl

/-- A slot of a P8 word is one byte (R4). -/
theorem slotValue_p8 (w : Word) (k : Nat) : slotValue .p8 w k = ((w >>> (8 * k)).setWidth 8).setWidth 16 :=
  BitVec.eq_of_getLsbD_eq fun i hi => by
    rw [getLsbD_slotValue]
    simp only [BitVec.getLsbD_setWidth, BitVec.getLsbD_ushiftRight, hi, decide_true, Bool.true_and, Format.bits, Nat.mul_comm]
    rfl

theorem setWidth_byte (x : Byte) : (x.setWidth 16).setWidth 32 = x.setWidth 32 := by
  have hx := x.isLt
  refine BitVec.eq_of_toNat_eq ?_
  simp only [BitVec.toNat_setWidth]
  omega

/-- A byte alone in a P8 word (R4, R89). -/
theorem withSlot_p8_zero (x : Byte) (k : Nat) : withSlot .p8 0 k (x.setWidth 16) = x.setWidth 16 <<< (8 * k) := by
  have hmask : x.setWidth 16 &&& Format.p8.maxValue = x.setWidth 16 := BitVec.eq_of_getLsbD_eq fun i hi => by
    rw [BitVec.getLsbD_and, Format.getLsbD_maxValue, BitVec.getLsbD_setWidth]
    by_cases h : i < 8
    · simp [h, Format.bits]
    · simp [h, Format.bits, BitVec.getLsbD_of_ge x i (by omega)]
  rw [withSlot, hmask]
  simp [Format.bits, Nat.mul_comm]

theorem withCovered_zero (k : Nat) : withCovered 0 k = 1#16 <<< k := BitVec.zero_or

/-- One byte does not complete a P8 word (R87). -/
theorem not_full_of_one_byte {k : Nat} (hk : k < 2) : withCovered 0 k ≠ Format.p8.fullCoverage := by
  obtain rfl | rfl : k = 0 ∨ k = 1 := by omega
  all_goals decide

/-! ## A claim by PASS -/

/-- A request that PASS claims, seen in IDLE on a quiet state (R53, R59). -/
theorem exec_of_pass {s : State} {write : Bool} {a : BitVec 22} {lanes : BitVec 4} {d : HostWord} (hq : Quiet s) (hi : s.hpc.state = .idle)
    (hre : s.cmu.restarting = false) (hl : lanes ≠ 0) (hc : claimantOf s (4 * a.toNat) = some .pass) :
    exec (.hostRequest write a lanes d) s =
      .next (startAccess (requestSeen s ⟨write, a, lanes, d⟩)
        ⟨if write then .write else .read, 4 * a.toNat, lanes, if write then d else 0, some .pass, none,
          passList write (4 * a.toNat) lanes d, 0⟩ .pass .p8) := by
  rw [exec_hostRequest_of_idle hq hi, seeRequest_of_not_restarting (by simpa using hre),
    takeRequest_of_pass (by simpa using hl) (by simpa using hc)]
  rfl

/-- A read of one pixel that the latch holds (R129). -/
theorem planRead_of_hit {s : State} {p : Pixel} {l : Latch} (hl : s.ral.latch = some l) (hw : l.word = p.word) (o : Origin) (f : Format) :
    planRead s o f [.pixel p] =
      { s with rg := some ⟨f, [.pixel p.lane p.word p.slot 0 .done], [⟨p.word, .latchHit l.data⟩]⟩ } := by
  have hwords : distinctWords [.pixel p] = [p.word] := rfl
  have hslot := pixelSlotOf_resolved (r := s.ral) (List.mem_singleton_self p.word)
  rw [if_pos (by simp [hl, hw]), List.idxOf_cons_self] at hslot
  simp only [List.map_cons, List.map_nil, Ral.resolved_of_hit hl hw] at hslot
  simp only [planRead, hwords, resolveWords_cons_hit hl hw, resolveWords, List.map_cons, List.map_nil, hslot]

/-- A read of one pixel that the latch does not hold, and no OPEN entry (R129). -/
theorem planRead_of_miss {s : State} {p : Pixel} (hmiss : s.ral.latch.map Latch.word ≠ some p.word) (hw : NotOpenFor s p.word) (o : Origin)
    (f : Format) :
    planRead s o f [.pixel p] =
      { s with
        mq := s.mq ++ [.gather p.word 0 o]
        rg := some ⟨f, [.pixel p.lane p.word p.slot 0 .wait], [⟨p.word, .queued⟩]⟩ } := by
  have hwords : distinctWords [.pixel p] = [p.word] := rfl
  have hclose : closeForRead s p.word = s := by simp only [closeForRead, openEntryFor_eq_none.mpr hw]
  have hslot := pixelSlotOf_resolved (r := s.ral) (List.mem_singleton_self p.word)
  rw [if_neg hmiss, List.idxOf_cons_self] at hslot
  simp only [List.map_cons, List.map_nil, Ral.resolved_of_miss hmiss] at hslot
  simp only [planRead, hwords, resolveWords_cons_miss hmiss, resolveWords, hclose, appendItem, List.map_cons, List.map_nil, hslot]

/-- The read data of one resolved pixel (R7, R131). -/
theorem Gather.assembled_of_one (f : Format) (lane word slot : Nat) (d : Word) :
    Gather.anyFailed ⟨f, [.pixel lane word slot 0 .done], [⟨word, .latchHit d⟩]⟩ = false
      ∧ Gather.assembled ⟨f, [.pixel lane word slot 0 .done], [⟨word, .latchHit d⟩]⟩ = laneData lane (slotValue f d slot) :=
  ⟨rfl, BitVec.zero_or⟩

/-! ## An access of one pixel -/

section
variable {u : State} {x : AccessRecord} {p : Pixel} (hlist : x.list = [.pixel p]) (o : Origin) (f : Format)
include hlist

/-- A write of one pixel opens the lowest FREE entry and is answered (R60, R61, R89). -/
theorem startAccess_of_one_write (hreq : u.inp.hreq = true) {v operand : Word} {coverage : BitVec 16} {i : Fin 8}
    (hd : x.direction = .write) (hnext : x.next = 0)
    (hv : p.value = some v) (hi : LowestFreeIs u i) (hw : NotOpenFor u p.word) (hdelay : 1 ≤ u.cmu.settings.idleDelay) (hn : NoneAtAnswer u)
    (hre : u.cmu.restarting = false) (hc : ¬ (p.op = .replace ∧ withCovered 0 p.slot = p.format.fullCoverage))
    (hoperand : withSlot p.format 0 p.slot v = operand) (hcoverage : withCovered 0 p.slot = coverage) :
    startAccess u x o f =
      { u with
        mb := u.mb.set i (some ⟨.opened (.count (8 * u.cmu.settings.idleDelay)), p.word, p.format, p.op, operand, coverage, nextOrder u,
          p.origin⟩)
        ral := ralReported u.ral p.word
        hpc := ⟨.answered, some { x with next := 1 }, true, false, 0⟩ } := by
  subst hoperand hcoverage
  rw [startAccess_of_write hd (by simp [hlist]),
    continueWrite_of_last (s := { u with hpc := { u.hpc with state := .placing, access := some x } }) (p := p) (by simp [hlist, hnext])
      (by simp [hlist, hnext]) hv (by exact hi) (by exact hw) hdelay (by exact hn) hre hc,
    hnext, if_pos hreq, if_pos hreq]
  rfl

/-- A read of one pixel that the latch holds is answered at once (R129, R131). -/
theorem startAccess_of_one_hit (hreq : u.inp.hreq = true) {l : Latch} (hd : x.direction = .read) (hsn : x.snapshot = none) (hl : u.ral.latch = some l)
    (hw : l.word = p.word) :
    startAccess u x o f =
      { u with rg := none, hpc := ⟨.answered, some x, true, false, laneData p.lane (slotValue f l.data p.slot)⟩ } := by
  obtain ⟨hfailed, hdata⟩ := Gather.assembled_of_one f p.lane p.word p.slot l.data
  rw [startAccess_of_read hd, hlist, planRead_of_hit (by exact hl) hw,
    answerRead_of_hreq (by exact hreq) rfl rfl rfl rfl (by simp [hsn]), hfailed, hdata]
  rfl

/-- Any other read of one pixel waits for its READ item, which joins the tail (R128, R129). -/
theorem startAccess_of_one_miss (hd : x.direction = .read) (hmiss : u.ral.latch.map Latch.word ≠ some p.word) (hw : NotOpenFor u p.word) :
    startAccess u x o f =
      { u with
        mq := u.mq ++ [.gather p.word 0 o]
        rg := some ⟨f, [.pixel p.lane p.word p.slot 0 .wait], [⟨p.word, .queued⟩]⟩
        hpc := { u.hpc with state := .gathering, access := some x } } := by
  rw [startAccess_of_read hd, hlist, answerRead_of_not_due, planRead_of_miss (by exact hmiss) (by exact hw)]
  rw [readDue_planRead rfl]
  exact fun h => hmiss (h p List.mem_cons_self)

end

/-! ## Pass-through -/

/-- The pixel of a lane of a pass-through access, by its host word's first memory word (R11, R59). -/
theorem passPixel_eq (write : Bool) (a : BitVec 22) (d : HostWord) (j : Nat) :
    passPixel write (4 * a.toNat) d j =
      ⟨j, 4 * a.toNat / 2 + j / 2, j % 2, .p8, .replace, .pass,
        if write then some (((d >>> (8 * j)).setWidth 8).setWidth 16) else none⟩ := by
  rw [passPixel, hostValue_p8, show (4 * a.toNat + j) / 2 = 4 * a.toNat / 2 + j / 2 by omega,
    show (4 * a.toNat + j) % 2 = j % 2 by omega]

/-- One lane enabled is one unit (R57). -/
theorem enabledUnits_of_one (j : Fin 4) : enabledUnits .p8 (1#4 <<< j.val) = [j.val] := by
  revert j
  decide

theorem oneLane_ne_zero (j : Fin 4) : (1#4 <<< j.val : BitVec 4) ≠ 0 := by
  revert j
  decide

/-- Settles O25: the list has one P8 REPLACE pixel for each lane, and one byte is placed, served by the latch or read. -/
theorem passByteIsPlacedOrGathered : Obligations.PassByteIsPlacedOrGathered := by
  refine ⟨?oneByte, ?lanes⟩
  case lanes =>
    intro s write a lanes d hq hi hre hl hc entry access
    have hlist : passList write (4 * a.toNat) lanes d = access.list := by
      change (enabledUnits .p8 lanes).map _ = (enabledUnits .p8 lanes).map entry
      exact List.map_congr_left fun j _ => congrArg ListEntry.pixel (passPixel_eq write a d j)
    have hne : access.list ≠ [] := by
      rw [← hlist]
      simpa [passList] using enabledUnits_ne_nil (f := .p8) hl nofun
    refine goesToWork_of_startAccess ((exec_of_pass hq hi hre hl hc).trans ?_) hq.1 hne (u := requestSeen s ⟨write, a, lanes, d⟩) fun st => rfl
    exact congrArg (fun l => Host.Outcome.next (startAccess (requestSeen s ⟨write, a, lanes, d⟩) { access with list := l } .pass .p8)) hlist
  case oneByte =>
    intro s a d j hq hi hre hc lanes word slot byte access
    have hrow (write : Bool) : exec (.hostRequest write a lanes d) s =
        .next (startAccess (requestSeen s ⟨write, a, lanes, d⟩)
          ⟨if write then .write else .read, 4 * a.toNat, lanes, if write then d else 0, some .pass, none,
            [.pixel (passPixel write (4 * a.toNat) d j.val)], 0⟩ .pass .p8) := by
      rw [exec_of_pass hq hi hre (oneLane_ne_zero j) hc, passList, enabledUnits_of_one]
      rfl
    have hslot : slot < 2 := Nat.mod_lt _ (by decide)
    refine ⟨fun i hd hn hw hfree => ⟨nextOrder s, fun k e he => order_lt_nextOrder he, ?_⟩, fun l hlatch hword => ?_,
      fun hmiss hw => ?_⟩
    · have hpixel : passPixel true (4 * a.toNat) d j.val = ⟨j.val, word, slot, .p8, .replace, .pass, some byte⟩ := by
        rw [passPixel, hostValue_p8]
        rfl
      rw [hrow, hpixel]
      have hdone := startAccess_of_one_write (u := requestSeen s ⟨true, a, lanes, d⟩)
        (x := ⟨.write, 4 * a.toNat, lanes, d, some .pass, none, [.pixel ⟨j.val, word, slot, .p8, .replace, .pass, some byte⟩], 0⟩)
        (p := ⟨j.val, word, slot, .p8, .replace, .pass, some byte⟩) rfl .pass .p8 rfl rfl rfl rfl hfree hw hd hn hre
        (fun h => not_full_of_one_byte hslot h.2) (withSlot_p8_zero ((d >>> (8 * j.val)).setWidth 8) slot) (withCovered_zero slot)
      exact congrArg Host.Outcome.next hdone
    · have hdone := startAccess_of_one_hit (u := requestSeen s ⟨false, a, lanes, d⟩) (x := access)
        (p := ⟨j.val, word, slot, .p8, .replace, .pass, none⟩) rfl .pass .p8 rfl rfl rfl hlatch hword
      rw [slotValue_p8, laneData, setWidth_byte] at hdone
      exact (hrow false).trans (congrArg Host.Outcome.next hdone)
    · have hdone := startAccess_of_one_miss (u := requestSeen s ⟨false, a, lanes, d⟩) (x := access)
        (p := ⟨j.val, word, slot, .p8, .replace, .pass, none⟩) rfl .pass .p8 rfl hmiss hw
      exact (hrow false).trans (congrArg Host.Outcome.next hdone)

/-! ## What no request touches -/

/-- The entries that are not OPEN stay, and so does every item already queued, in its place (R92, R109). -/
structure Leaves (s t : State) : Prop where
  queue : s.mq <+: t.mq
  kept : ∀ i : Fin 8, ∀ e ∈ s.mb[i], e.isOpen = false → t.mb[i] = some e

theorem Leaves.of_eq {s t : State} (hmb : t.mb = s.mb) (hmq : t.mq = s.mq) : Leaves s t :=
  ⟨hmq ▸ List.prefix_rfl, fun i e he _ => by rwa [hmb]⟩

theorem Leaves.trans {s t u : State} (h : Leaves s t) (k : Leaves t u) : Leaves s u :=
  ⟨h.queue.trans k.queue, fun i e he ho => k.kept i e (h.kept i e he ho) ho⟩

/-- Only entries and items count for where the change begins. -/
theorem Leaves.startingAt {s t u : State} (h : Leaves t u) (hmb : t.mb = s.mb) (hmq : t.mq = s.mq) : Leaves s u :=
  (Leaves.of_eq hmb hmq).trans h

theorem ClosesOnly.leaves {s t : State} (h : ClosesOnly s t) : Leaves s t := ⟨h.queue, h.kept⟩

/-- An entry that is FREE or OPEN is written. -/
theorem leaves_of_set {s t : State} {i : Fin 8} {x : Option Entry} (hmb : t.mb = s.mb.set i x) (hmq : t.mq = s.mq)
    (hi : ∀ e ∈ s.mb[i], e.isOpen = true) : Leaves s t := by
  refine ⟨hmq ▸ List.prefix_rfl, fun k e he ho => ?_⟩
  have hne : i ≠ k := by
    rintro rfl
    exact absurd (hi e he) (by simp [ho])
  rw [hmb]
  exact (mb_set_other _ hne x).trans he

theorem placeInFree_leaves (s : State) (p : Pixel) : Leaves s (placeInFree s p).state := by
  unfold placeInFree
  split
  · rename_i i hi
    have hfree := (lowestFree_eq_some.mp hi).1
    exact (leaves_of_set (i := i) (t := { s with mb := s.mb.set i (some (openedEntry s p)), ral := s.ral.placed p.word }) rfl rfl
      (by simp [hfree])).trans (closeIfComplete_closesOnly _ i).leaves
  · exact (forceClose_closesOnly s).leaves

theorem placePixel_leaves (s : State) (p : Pixel) : Leaves s (placePixel s p).state := by
  cases hf : openEntryFor s p.word with
  | none =>
    rw [placePixel_of_notOpen (openEntryFor_eq_none.mp hf)]
    exact placeInFree_leaves s p
  | some i =>
    obtain ⟨e, he, ho, -⟩ := openEntryFor_eq_some hf
    by_cases hm : e.format = p.format ∧ e.op = p.op
    · rw [placePixel_of_merge hf he hm, Placement.state, mergePixel_eq]
      exact (leaves_of_set (i := i) (t := { s with mb := s.mb.set i (some (mergedEntry s e p)), ral := s.ral.placed p.word }) rfl rfl
        (by simp [he, ho])).trans (closeIfComplete_closesOnly _ i).leaves
    · rw [placePixel_of_mismatch hf he hm]
      exact (closeEntry_closesOnly s i).leaves.trans (placeInFree_leaves _ p)

theorem placeList_leaves (l : List ListEntry) (s : State) : Leaves s (placeList s l).1 := by
  induction l generalizing s with
  | nil => exact .of_eq rfl rfl
  | cons x l ih =>
    cases x with
    | tail lane => exact ih s
    | pixel p =>
      have hp := placePixel_leaves s p
      cases hplaced : placePixel s p with
      | accepted u =>
        rw [placeList_of_accepted hplaced]
        rw [hplaced] at hp
        exact hp.trans (ih u)
      | waits u =>
        rw [placeList_of_waits hplaced]
        rwa [hplaced] at hp

theorem continueWrite_leaves (s : State) (a : AccessRecord) : Leaves s (continueWrite s a) := by
  have hplaced := placeList_leaves (a.list.drop a.next) s
  dsimp only [continueWrite]
  split
  · exact hplaced.trans ((completionNotification_closesOnly _).leaves.startingAt rfl rfl)
  · exact hplaced.trans (.of_eq rfl rfl)

theorem planRead_leaves (s : State) (o : Origin) (f : Format) (l : List ListEntry) : Leaves s (planRead s o f l) :=
  (resolveWords_closesOnly o (distinctWords l) s 0).leaves.trans (.of_eq rfl rfl)

theorem issuePrefetch_leaves (s : State) (n : Fin 8) (w : Nat) : Leaves s (issuePrefetch s n w) := by
  have hclosed := (closeForRead_closesOnly { s with ral := { s.ral with latch := none } } w).leaves
  exact ⟨hclosed.queue.trans (List.prefix_append _ _), hclosed.kept⟩

theorem streamReadNotification_leaves (s : State) (n : Fin 8) (r : Region) : Leaves s (streamReadNotification s n r) := by
  rw [streamReadNotification_eq]
  split
  · exact issuePrefetch_leaves s n _
  · exact .of_eq rfl rfl

theorem finishRead_leaves (s : State) (g : Gather) : Leaves s (finishRead s g) := by
  have hanswered : Leaves s (readAnswered s g) := .of_eq rfl rfl
  dsimp only [finishRead]
  split
  · split
    · split
      · exact hanswered.trans (streamReadNotification_leaves _ _ _)
      · exact hanswered
    · exact hanswered
  · exact hanswered

theorem answerRead_leaves (s : State) : Leaves s (answerRead s) := by
  unfold answerRead
  split
  · split
    · exact finishRead_leaves s _
    · exact .of_eq rfl rfl
  · exact .of_eq rfl rfl

theorem startAccess_leaves (s : State) (a : AccessRecord) (o : Origin) (f : Format) : Leaves s (startAccess s a o f) := by
  unfold startAccess
  split
  · split
    · exact .of_eq rfl rfl
    · exact (continueWrite_leaves { s with hpc := { s.hpc with state := .placing, access := some a } } a).startingAt rfl rfl
  · exact ((planRead_leaves { s with hpc := { s.hpc with state := .gathering, access := some a } } o f a.list).trans
      (answerRead_leaves _)).startingAt rfl rfl

/-- Records differ in their cursors at most (R23, R70). -/
def SameButCursor (s t : State) : Prop := ∀ n : Fin 8, { t.rt[n] with cursor := (s.rt[n]).cursor } = s.rt[n]

theorem sameButCursor_of_eq {s t : State} (h : t.rt = s.rt) : SameButCursor s t := fun n => by rw [h]

theorem startAccess_sameButCursor {s u : State} (h : SameButCursor s u) (a : AccessRecord) (o : Origin) (f : Format) :
    SameButCursor s (startAccess u a o f) := by
  rw [startAccess_frame]
  exact h

theorem claimRegion_leaves (s : State) (l : HostLines) (n : Fin 8) : Leaves s (claimRegion s l n) ∧ SameButCursor s (claimRegion s l n) := by
  dsimp only [claimRegion]
  split
  · exact ⟨.of_eq rfl rfl, sameButCursor_of_eq rfl⟩
  · split
    · exact ⟨.of_eq rfl rfl, sameButCursor_of_eq rfl⟩
    · split
      · exact ⟨(startAccess_leaves _ _ _ _).startingAt rfl rfl, startAccess_sameButCursor (sameButCursor_of_eq rfl) _ _ _⟩
      · refine ⟨(startAccess_leaves _ _ _ _).startingAt rfl rfl, startAccess_sameButCursor (fun m => ?_) _ _ _⟩
        by_cases hnm : n = m
        · subst hnm
          split <;> simp
        · simp [Fin.val_inj, hnm]

theorem takeRequest_leaves (s : State) : Leaves s (takeRequest s) ∧ SameButCursor s (takeRequest s) := by
  dsimp only [takeRequest]
  split
  · exact ⟨.of_eq rfl rfl, sameButCursor_of_eq rfl⟩
  · split
    · exact ⟨.of_eq rfl rfl, sameButCursor_of_eq rfl⟩
    · exact claimRegion_leaves s _ _
    · exact ⟨(startAccess_leaves _ _ _ _).startingAt rfl rfl, startAccess_sameButCursor (sameButCursor_of_eq rfl) _ _ _⟩

theorem seeRequest_leaves (s : State) : Leaves s (seeRequest s) ∧ SameButCursor s (seeRequest s) := by
  unfold seeRequest
  split
  · exact ⟨.of_eq rfl rfl, sameButCursor_of_eq rfl⟩
  · exact takeRequest_leaves s

/-- Settles O28: outside IDLE the lines alone change, and in IDLE the request goes to work by operations that leave all this. -/
theorem hostRequestFrame : Obligations.HostRequestFrame := by
  intro s write a lanes d hq
  have hrow : ∃ t, exec (.hostRequest write a lanes d) s = .next t ∧ Leaves s t ∧ SameButCursor s t
      ∧ t = { s with
        inp := { s.inp with hreq := true, lines := ⟨write, a, lanes, d⟩ }, mb := t.mb, mq := t.mq, ral := t.ral, rg := t.rg, hpc := t.hpc
        rt := t.rt, flog := t.flog } := by
    by_cases hi : s.hpc.state = .idle
    · have hleaves := seeRequest_leaves (requestSeen s ⟨write, a, lanes, d⟩)
      exact ⟨_, exec_hostRequest_of_idle hq hi write a lanes d, hleaves.1.startingAt rfl rfl, hleaves.2, seeRequest_frame _⟩
    · exact ⟨_, (requestWaitsOutsideIdleAndRestart s write a lanes d hq).1 hi, .of_eq rfl rfl, sameButCursor_of_eq rfl, rfl⟩
  obtain ⟨t, hnext, hleaves, hrt, hframe⟩ := hrow
  refine ⟨t, hnext, ?_, ?_, ?_, ?_, ?_, ?_, hrt, hleaves.kept, (List.prefix_iff_eq_take.mp hleaves.queue).symm⟩ <;> rw [hframe]

end Sys2Proof.Machine
end

-- ==== One CLK period ====
section
/-! PROOFS. A CLK period with no command waiting (R48, R93, R94, R114, R119 to R125): the idle timers count down and those that run out close their
entries, which makes nothing due; then the MSQ's turn is the row it stands for, and a standing request is seen as its row sees it. -/

open Sys2Proof Sys2Proof.Machine

namespace Sys2Proof.Machine

/-! ## The idle timers -/

theorem Entry.onePeriodOn_eq_countDown : Entry.onePeriodOn = Entry.countDown := rfl

@[simp] theorem Entry.onePeriodOn_order (e : Entry) : e.onePeriodOn.order = e.order := by
  unfold Entry.onePeriodOn
  split <;> rfl

/-- A timer that counts down to 0 is one that runs out (R93, R94). -/
theorem Entry.hasRunOut_onePeriodOn (e : Entry) : e.onePeriodOn.hasRunOut = e.expires := by
  unfold Entry.onePeriodOn Entry.hasRunOut Entry.expires
  split <;> simp_all
  omega

theorem Entry.isOpen_of_hasRunOut {e : Entry} (h : e.hasRunOut = true) : e.isOpen = true := by
  simp only [Entry.hasRunOut, decide_eq_true_eq] at h
  simp only [Entry.isOpen, h]

/-- The state in which every counting timer has counted down by one (R93). -/
def periodCounted (s : State) : State := { s with mb := s.mb.map fun x => x.map Entry.onePeriodOn }

@[simp] theorem periodCounted_mb (s : State) (i : Fin 8) : (periodCounted s).mb[i] = (s.mb[i]).map Entry.onePeriodOn := by
  simp [periodCounted]

theorem orderOf_periodCounted (s : State) : orderOf (periodCounted s) = orderOf s := by
  funext i
  simp only [orderOf, periodCounted_mb]
  cases s.mb[i] <;> simp

/-- Counting some entries one after another counts each of them once. -/
theorem countDownEntries_mb {l : List (Fin 8)} (hl : l.Nodup) (s : State) (i : Fin 8) :
    (l.foldl countDownEntry s).mb[i] = if i ∈ l then (s.mb[i]).map Entry.countDown else s.mb[i] := by
  induction l generalizing s with
  | nil => simp
  | cons j l ih =>
    obtain ⟨hj, hl⟩ := List.nodup_cons.mp hl
    rw [List.foldl_cons, ih hl, countDownEntry_mb, mb_set]
    by_cases hij : j = i
    · subst hij
      simp [hj]
    · simp [hij, Ne.symm hij]

theorem countDownEntries_eq (s : State) : allEight.foldl countDownEntry s = periodCounted s := by
  rw [countDownEntries_frame]
  refine congrArg (fun x => { s with mb := x }) (mb_ext fun i => ?_)
  rw [countDownEntries_mb (by decide), if_pos (by revert i; decide)]
  simp [Entry.onePeriodOn_eq_countDown]

/-- The timers that run out close their entries in opened order (R93, R94). -/
theorem tickIdleTimers_closedWhere (s : State) : ClosedWhere Entry.hasRunOut (periodCounted s) (tickIdleTimers s) := by
  rw [tickIdleTimers, countDownEntries_eq]
  refine closedWhere_closeEntries (nodup_entriesWhere s _) (fun i => ?_) ?_ (fun _ => Entry.isOpen_of_hasRunOut) rfl rfl
  · rw [mem_entriesWhere, periodCounted_mb]
    cases s.mb[i] <;> simp [Entry.hasRunOut_onePeriodOn]
  · rw [orderOf_periodCounted]
    exact inOpenedOrder_sorted s _

/-- One entry and its item count after the idle timers: it closes when its timer runs out (R93, R94). -/
theorem tickIdleTimers_entry {s : State} {i : Fin 8} {e : Entry} {n : Nat} (he : s.mb[i] = some e) (hst : e.state = .opened (.count n)) :
    (tickIdleTimers s).mb[i] = some { e with state := if 1 < n then .opened (.count (n - 1)) else .closed }
      ∧ (tickIdleTimers s).mq.count (.entry i) = s.mq.count (.entry i) + if 1 < n then 0 else 1 := by
  have hon : e.onePeriodOn = { e with state := .opened (.count (n - 1)) } := by simp only [Entry.onePeriodOn, hst]
  have hout : e.onePeriodOn.hasRunOut = decide (¬ 1 < n) := by
    rw [Entry.hasRunOut_onePeriodOn]
    simp [Entry.expires, hst]
  obtain ⟨hmb, l, hmq, hl, hmem, -⟩ := tickIdleTimers_closedWhere s
  have hi := hmem i
  rw [periodCounted_mb, he, Option.map_some, Option.any_some, hout] at hi
  have hcount : (l.map Item.entry).count (.entry i) = l.count i :=
    List.count_map_of_injective _ Item.entry (fun a b h => Item.entry.inj h) i
  refine ⟨?_, ?_⟩
  · rw [hmb i, periodCounted_mb, he, Option.map_some, Option.map_some, hout, hon]
    by_cases hn : 1 < n <;> simp [hn]
  · rw [hmq, List.count_append, hcount, hl.count]
    by_cases hn : 1 < n <;> simp_all [periodCounted]

/-! ## Closing makes nothing due -/

/-- Nothing becomes due where the same entries are FREE and the queue does not become empty (R91, R170). -/
theorem settled_of_sameFree {s t : State} (h : settled s = true) (hframe : t = { s with mb := t.mb, mq := t.mq })
    (hfree : ∀ i : Fin 8, (t.mb[i]).isNone = (s.mb[i]).isNone) (hmq : t.mq = [] → s.mq = []) : settled t = true := by
  have hlowest : lowestFree t = lowestFree s := by simp only [lowestFree, hfree]
  have hall : allFree t = allFree s := by simp only [allFree, hfree]
  have hplace : placementDue t = placementDue s := by
    rw [placementDue, hlowest, hframe]
    rfl
  have hread : readDue t = readDue s := by rw [hframe]; rfl
  have hflush : flushDoneDue t = flushDoneDue s := by rw [hframe]; rfl
  have hgrant : grantDue t = grantDue s := by rw [hframe]; rfl
  have hcmu : t.cmu = s.cmu := by rw [hframe]
  have hflight : accessInFlight t = accessInFlight s := by rw [hframe]; rfl
  simp only [settled, Bool.and_eq_true, Bool.not_eq_true'] at h ⊢
  obtain ⟨⟨⟨⟨h1, h2⟩, h3⟩, h4⟩, h5⟩ := h
  refine ⟨⟨⟨⟨by rw [hplace, h1], by rw [hread, h2]⟩, by rw [hflush, h3]⟩, by rw [hgrant, h4]⟩, Bool.eq_false_iff.mpr fun hend => ?_⟩
  rw [restartEndDue, hcmu, hall, hflight] at hend
  simp only [Bool.and_eq_true, decide_eq_true_eq] at hend
  refine absurd h5 (by simp [restartEndDue, hend, hmq hend.1.2])

theorem ClosedWhere.isNone {test : Entry → Bool} {s t : State} (h : ClosedWhere test s t) (i : Fin 8) : (t.mb[i]).isNone = (s.mb[i]).isNone := by
  rw [h.1 i, Option.isNone_map]

theorem ClosedWhere.mq_eq_nil {test : Entry → Bool} {s t : State} (h : ClosedWhere test s t) (ht : t.mq = []) : s.mq = [] := by
  obtain ⟨-, l, hmq, -⟩ := h
  exact (List.append_eq_nil_iff.mp (hmq.symm.trans ht)).1

theorem tickIdleTimers_quiet {s : State} (h : Quiet s) : Quiet (tickIdleTimers s) := by
  have hclosed := tickIdleTimers_closedWhere s
  refine ⟨by rw [tickIdleTimers_frame]; exact h.1, settled_of_sameFree h.2 (tickIdleTimers_frame s) (fun i => ?_) hclosed.mq_eq_nil⟩
  rw [hclosed.isNone, periodCounted_mb, Option.isNone_map]

/-! ## The MSQ's turn -/

/-- The MSQ's turn leaves the host port and the host's lines (R48). -/
theorem tickSequencer_hostPort (s : State) :
    (tickSequencer s).hpc = s.hpc ∧ (tickSequencer s).inp = { s.inp with mrdy := (tickSequencer s).inp.mrdy } := by
  unfold tickSequencer
  split
  · obtain h | ⟨n, -, -, h⟩ | h | h := tickReadyTimer_cases s <;> rw [h]
    · exact ⟨rfl, rfl⟩
    · exact ⟨rfl, rfl⟩
    · rw [readyTimeoutEvent_frame]
      exact ⟨rfl, rfl⟩
    · rw [secondExpiryEvent_frame]
      exact ⟨rfl, rfl⟩
  · unfold sequencerActs
    split
    · split
      · rw [unsolicitedReadyEvent_frame]
        exact ⟨rfl, rfl⟩
      · rw [beginItemEvent_frame]
        exact ⟨rfl, rfl⟩
    · split
      · rw [stuckDropEvent_frame]
        exact ⟨rfl, rfl⟩
      · rw [stuckEndEvent_frame]
        exact ⟨rfl, rfl⟩
    all_goals exact ⟨rfl, rfl⟩

/-- The turn is the row it stands for (R114, R119 to R124). -/
theorem exec_sequencerRow {s : State} (hq : Quiet s) (ht : TimerOk s) {c : Instr} (hc : c ∈ sequencerRow s) :
    exec c s = .next (tickSequencer s) := by
  cases htimer : s.msq.timer with
  | some n =>
    have harmed : s.msq.state = .reading ∨ s.msq.state = .writing ∨ s.msq.state = .recover := by
      simpa [TimerOk, htimer, or_assoc] using ht.symm
    simp only [sequencerRow, htimer] at hc
    rw [tickSequencer_of_armed htimer]
    by_cases hn : 1 < n
    · simp [hn] at hc
    · rw [if_neg hn] at hc
      by_cases hrec : s.msq.state = .recover
      · obtain rfl : Instr.secondExpiry = c := by simpa [hrec] using hc
        rw [tickReadyTimer_of_second htimer hn hrec]
        exact next_running_of_quiet hq secondExpiryEvent
      · obtain rfl : Instr.readyTimeout = c := by simpa [hrec] using hc
        rw [tickReadyTimer_of_first htimer hn (by tauto)]
        exact next_running_of_quiet hq readyTimeoutEvent
  | none =>
    simp only [sequencerRow, htimer] at hc
    rw [tickSequencer_of_not_armed htimer, sequencerActs]
    cases hst : s.msq.state <;> simp only [hst] at hc
    case idle =>
      obtain rfl := Option.some.inj hc
      split
      · exact next_running_of_quiet hq unsolicitedReadyEvent
      · exact next_running_of_quiet hq beginItemEvent
    case stuck =>
      obtain rfl := Option.some.inj hc
      split
      · exact next_running_of_quiet hq stuckDropEvent
      · exact next_running_of_quiet hq stuckEndEvent
    all_goals cases hc

/-- Without a row the armed timer counts on and nothing else happens (R119, R125). -/
theorem tickSequencer_of_no_row {s : State} (hc : sequencerRow s = none) :
    tickSequencer s = { s with msq := { s.msq with timer := s.msq.timer.map fun n => n - 1 } } := by
  cases htimer : s.msq.timer with
  | some n =>
    simp only [sequencerRow, htimer] at hc
    rw [tickSequencer_of_armed htimer]
    by_cases hn : 1 < n
    · rw [tickReadyTimer_of_counting htimer hn, Option.map_some]
    · rw [if_neg hn] at hc
      split at hc <;> cases hc
  | none =>
    have hstays : sequencerActs s = s := by
      simp only [sequencerRow, htimer] at hc
      unfold sequencerActs
      split at hc <;> simp_all
    rw [tickSequencer_of_not_armed htimer, hstays, Option.map_none, ← htimer]

/-- In HELD the turn leaves the entries and the queue (R125). -/
theorem tickSequencer_of_held {s : State} (hst : s.msq.state = .held) : (tickSequencer s).mb = s.mb ∧ (tickSequencer s).mq = s.mq := by
  cases htimer : s.msq.timer with
  | some n =>
    rw [tickSequencer_of_armed htimer, tickReadyTimer]
    simp only [htimer, hst]
    split <;> exact ⟨rfl, rfl⟩
  | none =>
    rw [tickSequencer_of_not_armed htimer, sequencerActs]
    simp only [hst, and_self]

/-! ## A standing request -/

/-- A request that stands at the pins when no answer is out is seen as its row sees it (R48). -/
theorem exec_hostRequest_of_standing {s : State} (hr : s.inp.rstn = true) (hreq : s.inp.hreq = true) (hi : s.hpc.state = .idle)
    (hlow : s.hpc.hdone = false ∧ s.hpc.herr = false ∧ s.hpc.hrd = 0) :
    exec (.hostRequest s.inp.lines.hwr s.inp.lines.ha s.inp.lines.hlane s.inp.lines.hwd) s = .next (hostActs s) := by
  have hrow : exec (.hostRequest s.inp.lines.hwr s.inp.lines.ha s.inp.lines.hlane s.inp.lines.hwd) s
      = .next (seeRequest (requestSeen (takeDue s) s.inp.lines)) := by
    change execHostRequest _ _ _ _ s = _
    rw [execHostRequest, if_pos hr, if_pos hi]
    rfl
  have hinp : (takeDue s).inp = s.inp := by rw [takeDue_frame]
  have hsame : requestSeen (takeDue s) s.inp.lines = takeDue s := by
    have hlines : { s.inp with hreq := true, lines := s.inp.lines } = s.inp := by rw [← hreq]
    have hhpc : (⟨s.hpc.state, s.hpc.access, false, false, 0⟩ : Hpc) = s.hpc := by
      obtain ⟨h1, h2, h3⟩ := hlow
      rw [← h3]
      conv_lhs => rw [← h1]
      cases hc : s.hpc
      simp_all
    rw [requestSeen_eq, hinp, takeDue_hpc_of_idle hi, hlines, hhpc]
    conv_rhs => rw [takeDue_frame, takeDue_hpc_of_idle hi]
    conv_lhs => rw [takeDue_frame, takeDue_hpc_of_idle hi]
  rw [hrow, hsame, hostActs_of_request hreq hi]

/-- Settles O4: the idle timers, the MSQ's row and the standing request, one after another. -/
theorem clkPeriodCountsAndActs : Obligations.ClkPeriodCountsAndActs := by
  refine ⟨fun s hq ht hp => ?period, fun s i e n hq hp hst hreq he hn => ?held⟩
  case period =>
    intro counted l
    have hquiet : Quiet (tickIdleTimers (endAnswer s)) := tickIdleTimers_quiet (s := endAnswer s) hq
    obtain ⟨hhpc, hinp⟩ := tickSequencer_hostPort (tickIdleTimers (endAnswer s))
    have hstep : step s = .next (hostActs (tickSequencer (tickIdleTimers (endAnswer s)))) := by
      rw [step_of_no_command hp, clockTick_of_quiet hq]
    have hframe := tickIdleTimers_frame (endAnswer s)
    have hclosed := tickIdleTimers_closedWhere (endAnswer s)
    generalize tickIdleTimers (endAnswer s) = u at *
    have huhpc : u.hpc = ⟨s.hpc.state, s.hpc.access, false, false, 0⟩ := by rw [hframe]; rfl
    have huinp : u.inp = s.inp := by rw [hframe]; rfl
    have humsq : u.msq = s.msq := by rw [hframe]; rfl
    have hrow : sequencerRow u = sequencerRow s := by simp only [sequencerRow, huinp, humsq]
    rw [huhpc] at hhpc
    rw [huinp] at hinp
    refine ⟨u, tickSequencer u, hframe, hclosed, hquiet, fun c hc => ?_, fun hc => tickSequencer_of_no_row (hrow.trans hc), fun h => ?_,
      fun hreq hi => ?_⟩
    · exact exec_sequencerRow hquiet (by rw [TimerOk, humsq]; exact ht) (by rwa [hrow])
    · rw [hstep, hostActs_of_no_request (by rw [hhpc, hinp]; exact h)]
    · have hlines : (tickSequencer u).inp.lines = l := by rw [hinp]
      rw [hstep, ← hlines]
      exact (exec_hostRequest_of_standing (by rw [hinp]; exact hq.1) (by rw [hinp]; exact hreq) (by rw [hhpc]; exact hi)
        (by rw [hhpc]; exact ⟨rfl, rfl, rfl⟩)).symm
  case held =>
    have hstill := tickSequencer_of_held (s := tickIdleTimers (endAnswer s)) (by rw [tickIdleTimers_frame]; exact hst)
    have hinp := (tickSequencer_hostPort (tickIdleTimers (endAnswer s))).2
    obtain ⟨hmb, hmq⟩ := tickIdleTimers_entry (s := endAnswer s) he hn
    refine ⟨_, step_of_no_command hp, ?_⟩
    rw [clockTick_of_quiet hq, hostActs_of_no_request (.inl (by rw [hinp, tickIdleTimers_frame]; exact hreq)), hstill.1, hstill.2, hmb, hmq]
    exact ⟨rfl, fun h => by simp [Nat.not_lt.mpr h], fun h => by simp [h]⟩

end Sys2Proof.Machine
end

-- ==== Due work ====
section
/-! PROOFS. Due work and its order (log entries 2, 6, 26): each of the five events leaves nothing of its own kind due and makes nothing of an earlier
kind due, so that one pass leaves nothing due, the five rows one after another are that pass, and a command may find the pass already done. -/

open Sys2Proof Sys2Proof.Machine

namespace Sys2Proof.Machine

/-! ## A pixel waits only when no entry is FREE -/

/-- No entry is FREE (R90). -/
def NoneFree (s : State) : Prop := ∀ i : Fin 8, s.mb[i] ≠ none

theorem closeEntry_noneFree {s : State} (h : NoneFree s) (k : Fin 8) : NoneFree (closeEntry s k) := by
  intro i
  cases he : s.mb[k] with
  | none => exact absurd he (h k)
  | some e =>
    cases ho : e.isOpen with
    | true =>
      rw [closeEntry_of_open he ho]
      change (s.mb.set k _)[i] ≠ none
      rw [mb_set]
      split
      · simp
      · exact h i
    | false =>
      rw [closeEntry]
      simp only [he, ho]
      exact h i

theorem forceClose_noneFree {s : State} (h : NoneFree s) : NoneFree (forceClose s) := by
  by_cases ho : ∃ i : Fin 8, (s.mb[i]).any Entry.isOpen = true
  · obtain ⟨i, -, -, -, -, hclose⟩ := forceClose_of_open ho
    rw [hclose]
    exact closeEntry_noneFree h i
  · rw [forceClose_of_none_open fun i e he => Bool.eq_false_iff.mpr fun hopen => ho ⟨i, any_eq_true_iff.mpr ⟨e, he, hopen⟩⟩]
    exact h

theorem placeInFree_waits {s u : State} {p : Pixel} (h : placeInFree s p = .waits u) : NoneFree u := by
  unfold placeInFree at h
  split at h
  · cases h
  · cases h
    exact forceClose_noneFree (lowestFree_eq_none.mp ‹_›)

theorem placePixel_waits {s u : State} {p : Pixel} (h : placePixel s p = .waits u) : NoneFree u := by
  cases hf : openEntryFor s p.word with
  | none =>
    rw [placePixel_of_notOpen (openEntryFor_eq_none.mp hf)] at h
    exact placeInFree_waits h
  | some i =>
    obtain ⟨e, he, -, -⟩ := openEntryFor_eq_some hf
    by_cases hm : e.format = p.format ∧ e.op = p.op
    · rw [placePixel_of_merge hf he hm] at h
      cases h
    · rw [placePixel_of_mismatch hf he hm] at h
      exact placeInFree_waits h

/-- A list is left unfinished only at a pixel that waits (R60, R90). -/
theorem placeList_unfinished {l : List ListEntry} {s : State} (h : (placeList s l).2 < l.length) : NoneFree (placeList s l).1 := by
  induction l generalizing s with
  | nil => exact absurd h (Nat.not_lt_zero _)
  | cons x l ih =>
    cases x with
    | tail lane => exact ih (Nat.lt_of_succ_lt_succ h)
    | pixel p =>
      cases hp : placePixel s p with
      | accepted u =>
        rw [placeList_of_accepted hp] at h ⊢
        exact ih (Nat.lt_of_succ_lt_succ h)
      | waits u =>
        rw [placeList_of_waits hp]
        exact placePixel_waits hp

/-! ## What is due, by the HPC's state -/

theorem placementDue_of_not_placing {s : State} (h : s.hpc.state ≠ .placing) : placementDue s = false := by
  rw [placementDue, waitingWrite, if_neg h]
  rfl

theorem placementDue_of_noneFree {s : State} (h : NoneFree s) : placementDue s = false := by
  rw [placementDue, lowestFree_eq_none.mpr h]
  exact Bool.and_false _

theorem readDue_of_not_gathering {s : State} (h : s.hpc.state ≠ .gathering) : readDue s = false := by
  simp [readDue, h]

theorem answer_not_placing (s : State) (error : Bool) (data : HostWord) : (answer s error data).hpc.state ≠ .placing := by
  dsimp only [answer]
  split <;> simp

/-- The host port has nothing due: no waiting pixel with an entry FREE, no complete read in hand (R91, R131). -/
def HostPortDone (s : State) : Prop := placementDue s = false ∧ readDue s = false

theorem HostPortDone.of_state {s : State} (hp : s.hpc.state ≠ .placing) (hg : s.hpc.state ≠ .gathering) : HostPortDone s :=
  ⟨placementDue_of_not_placing hp, readDue_of_not_gathering hg⟩

theorem answer_done (s : State) (error : Bool) (data : HostWord) : HostPortDone (answer s error data) :=
  .of_state (answer_not_placing s error data) (answer_not_gathering s error data)

/-- A write goes on until it is answered or a pixel waits for an entry (R60, R61). -/
theorem continueWrite_done (s : State) (a : AccessRecord) : placementDue (continueWrite s a) = false := by
  dsimp only [continueWrite]
  split
  · refine placementDue_of_not_placing ?_
    rw [finishWrite, (completionNotification_closesOnly _).frame]
    exact answer_not_placing _ _ _
  · rename_i hlong
    exact placementDue_of_noneFree (placeList_unfinished (s := s) (by rw [List.length_drop]; omega))

theorem takeWaitingPlacement_done (s : State) : placementDue (takeWaitingPlacement s) = false := by
  unfold takeWaitingPlacement
  split
  · split
    · exact continueWrite_done s _
    · rename_i hdue hnone
      simp [placementDue, hnone]
  · exact Bool.eq_false_iff.mpr ‹_›

theorem finishRead_done (s : State) (g : Gather) : HostPortDone (finishRead s g) :=
  .of_state (by rw [finishRead_hpc]; exact answer_not_placing _ _ _) (by rw [finishRead_hpc]; exact answer_not_gathering _ _ _)

theorem answerRead_done {s : State} (h : placementDue s = false) : HostPortDone (answerRead s) := by
  by_cases hdue : readDue s = true
  · obtain ⟨-, g, hg, -⟩ := readDue_iff.mp hdue
    simp only [answerRead, hdue, hg, if_true]
    exact finishRead_done s g
  · rw [answerRead, if_neg hdue]
    exact ⟨h, Bool.eq_false_iff.mpr hdue⟩

/-- A claimed access goes to work until it is answered or waits (R60 to R63). -/
theorem startAccess_done (s : State) (a : AccessRecord) (o : Origin) (f : Format) : HostPortDone (startAccess s a o f) := by
  unfold startAccess
  split
  · split
    · exact answer_done _ _ _
    · exact ⟨continueWrite_done _ _, readDue_of_not_gathering (continueWrite_not_gathering _ (by simp))⟩
  · exact answerRead_done (placementDue_of_not_placing (by rw [planRead_frame]; simp))

theorem claimRegion_done (s : State) (l : HostLines) (n : Fin 8) : HostPortDone (claimRegion s l n) := by
  dsimp only [claimRegion]
  split
  · exact answer_done _ _ _
  · split
    · exact answer_done _ _ _
    · split <;> exact startAccess_done _ _ _ _

theorem takeRequest_done (s : State) : HostPortDone (takeRequest s) := by
  dsimp only [takeRequest]
  split
  · exact answer_done _ _ _
  · split
    · exact answer_done _ _ _
    · exact claimRegion_done s _ _
    · exact startAccess_done _ _ _ _

/-! ## The five events in turn -/

theorem settled_iff {s : State} :
    settled s = true ↔ HostPortDone s ∧ flushDoneDue s = false ∧ grantDue s = none ∧ restartEndDue s = false := by
  simp [settled, HostPortDone, and_assoc]

theorem setFlushDone_done {s : State} (h : HostPortDone s) : HostPortDone (setFlushDone s) ∧ flushDoneDue (setFlushDone s) = false := by
  unfold setFlushDone
  split
  · exact ⟨h, rfl⟩
  · exact ⟨h, Bool.eq_false_iff.mpr ‹_›⟩

theorem takeGrant_done {s : State} (h : HostPortDone s ∧ flushDoneDue s = false) :
    HostPortDone (takeGrant s) ∧ flushDoneDue (takeGrant s) = false ∧ grantDue (takeGrant s) = none := by
  unfold takeGrant
  split
  · exact ⟨h.1, h.2, rfl⟩
  · exact ⟨h.1, h.2, ‹_›⟩

theorem endRestart_done {s : State} (h : HostPortDone s ∧ flushDoneDue s = false ∧ grantDue s = none) : settled (endRestart s) = true := by
  obtain ⟨hport, hflush, hgrant⟩ := h
  unfold endRestart
  split
  · rename_i hdue
    obtain ⟨-, -, -, hplacing, hgathering⟩ := restartEndDue_iff.mp hdue
    have hrest {t : State} (hd : HostPortDone t) (hcmu : t.cmu = .reset) (hhld : t.hld = s.hld) (hmsq : t.msq = s.msq) : settled t = true := by
      have hsame : grantDue t = grantDue s := by
        unfold grantDue portFree
        rw [hhld, hmsq]
      exact settled_iff.mpr ⟨hd, by rw [flushDoneDue, hcmu]; rfl, hsame.trans hgrant, by rw [restartEndDue, hcmu]; rfl⟩
    split
    · refine hrest (takeRequest_done _) ?_ ?_ ?_ <;> rw [takeRequest_frame] <;> rfl
    · exact hrest (t := restartReset s) (.of_state hplacing hgathering) rfl rfl rfl
  · exact settled_iff.mpr ⟨hport, hflush, hgrant, Bool.eq_false_iff.mpr ‹_›⟩

theorem settled_takeDue (s : State) : settled (takeDue s) = true :=
  endRestart_done (takeGrant_done (setFlushDone_done (answerRead_done (takeWaitingPlacement_done s))))

theorem takeDue_takeDue (s : State) : takeDue (takeDue s) = takeDue s := takeDue_of_settled (settled_takeDue s)

@[simp] theorem takeDue_inp (s : State) : (takeDue s).inp = s.inp := by rw [takeDue_frame]

/-! ## The pass after its first events -/

theorem takeWaitingPlacement_of_done {s : State} (h : placementDue s = false) : takeWaitingPlacement s = s := by
  rw [takeWaitingPlacement, if_neg (by simp [h])]

theorem answerRead_of_done {s : State} (h : readDue s = false) : answerRead s = s := by rw [answerRead, if_neg (by simp [h])]

theorem setFlushDone_of_done {s : State} (h : flushDoneDue s = false) : setFlushDone s = s := by rw [setFlushDone, if_neg (by simp [h])]

theorem takeGrant_of_done {s : State} (h : grantDue s = none) : takeGrant s = s := by rw [takeGrant, h]

theorem endRestart_of_done {s : State} (h : restartEndDue s = false) : endRestart s = s := by rw [endRestart, if_neg (by simp [h])]

theorem takeDue_of_placed {s : State} (h : placementDue s = false) :
    takeDue s = endRestart (takeGrant (setFlushDone (answerRead s))) := by
  rw [takeDue, takeWaitingPlacement_of_done h]

theorem takeDue_of_hostPortDone {s : State} (h : HostPortDone s) : takeDue s = endRestart (takeGrant (setFlushDone s)) := by
  rw [takeDue_of_placed h.1, answerRead_of_done h.2]

theorem takeDue_of_flushed {s : State} (h : HostPortDone s ∧ flushDoneDue s = false) : takeDue s = endRestart (takeGrant s) := by
  rw [takeDue_of_hostPortDone h.1, setFlushDone_of_done h.2]

theorem takeDue_of_granted {s : State} (h : HostPortDone s ∧ flushDoneDue s = false ∧ grantDue s = none) : takeDue s = endRestart s := by
  rw [takeDue_of_flushed ⟨h.1, h.2.1⟩, takeGrant_of_done h.2.2]

/-! ## The five rows -/

/-- A row that is due work takes its own event where it is due and otherwise everything due, so that after it `done` holds and the same is still
to be done. -/
theorem dueRow_outcome {s t : State} {due : Prop} [Decidable due] {done : State → Prop} (hr : s.inp.rstn = true)
    (htaken : done t ∧ takeDue t = takeDue s) (hdone : ∀ u, settled u = true → done u) :
    ∃ v, (if s.inp.rstn ∧ due then .next t else .next (running id s) : Host.Outcome State Fault Refusal) = .next v
      ∧ done v ∧ takeDue v = takeDue s := by
  split
  · exact ⟨t, rfl, htaken⟩
  · refine ⟨takeDue s, ?_, hdone _ (settled_takeDue s), takeDue_takeDue s⟩
    rw [running, if_pos hr]
    rfl

theorem exec_inp_rstn {s t : State} {c : Instr} (hr : s.inp.rstn = true) (hc : c ≠ .rstnAssert) (h : exec c s = .next t) : t.inp.rstn = true := by
  obtain ⟨u, hu, hevents⟩ := exec_events hr hc
  cases Host.Outcome.next.inj (h.symm.trans hu)
  exact hevents.rstn_pending.1.trans hr

theorem exec_waitingPlacementTaken_done {s : State} (hr : s.inp.rstn = true) :
    ∃ t, exec .waitingPlacementTaken s = .next t ∧ placementDue t = false ∧ takeDue t = takeDue s :=
  dueRow_outcome hr ⟨takeWaitingPlacement_done s, takeDue_of_placed (takeWaitingPlacement_done s)⟩
    fun _ hu => (settled_iff.mp hu).1.1

theorem exec_readAnswer_done {s : State} (hr : s.inp.rstn = true) (h : placementDue s = false) :
    ∃ t, exec .readAnswer s = .next t ∧ HostPortDone t ∧ takeDue t = takeDue s :=
  dueRow_outcome hr ⟨answerRead_done h, (takeDue_of_hostPortDone (answerRead_done h)).trans (takeDue_of_placed h).symm⟩
    fun _ hu => (settled_iff.mp hu).1

theorem exec_flushDone_done {s : State} (hr : s.inp.rstn = true) (h : HostPortDone s) :
    ∃ t, exec .flushDone s = .next t ∧ (HostPortDone t ∧ flushDoneDue t = false) ∧ takeDue t = takeDue s :=
  dueRow_outcome (done := fun t => HostPortDone t ∧ flushDoneDue t = false) hr
    ⟨setFlushDone_done h, (takeDue_of_flushed (setFlushDone_done h)).trans (takeDue_of_hostPortDone h).symm⟩
    fun _ hu => ⟨(settled_iff.mp hu).1, (settled_iff.mp hu).2.1⟩

theorem exec_holdGrant_done {s : State} (hr : s.inp.rstn = true) (h : HostPortDone s ∧ flushDoneDue s = false) :
    ∃ t, exec .holdGrant s = .next t ∧ (HostPortDone t ∧ flushDoneDue t = false ∧ grantDue t = none) ∧ takeDue t = takeDue s :=
  dueRow_outcome (done := fun t => HostPortDone t ∧ flushDoneDue t = false ∧ grantDue t = none) hr
    ⟨takeGrant_done h, (takeDue_of_granted (takeGrant_done h)).trans (takeDue_of_flushed h).symm⟩
    fun _ hu => ⟨(settled_iff.mp hu).1, (settled_iff.mp hu).2.1, (settled_iff.mp hu).2.2.1⟩

theorem exec_restartEnd_done {s : State} (hr : s.inp.rstn = true) (h : HostPortDone s ∧ flushDoneDue s = false ∧ grantDue s = none) :
    exec .restartEnd s = .next (takeDue s) := by
  obtain ⟨t, ht, hsettled, hsame⟩ : ∃ t, exec .restartEnd s = .next t ∧ settled t = true ∧ takeDue t = takeDue s :=
    dueRow_outcome (done := fun t => settled t = true) hr
      ⟨endRestart_done h, (takeDue_of_settled (endRestart_done h)).trans (takeDue_of_granted h).symm⟩ fun _ hu => hu
  rw [ht, ← hsame, takeDue_of_settled hsettled]

/-- The five rows one after another are the pass (log entries 2, 26). -/
theorem execAll_dueRows {s : State} (hr : s.inp.rstn = true) :
    execAll s [.waitingPlacementTaken, .readAnswer, .flushDone, .holdGrant, .restartEnd] = .next (takeDue s) := by
  obtain ⟨s1, h1, hd1, hs1⟩ := exec_waitingPlacementTaken_done hr
  have hr1 := exec_inp_rstn hr (by simp) h1
  obtain ⟨s2, h2, hd2, hs2⟩ := exec_readAnswer_done hr1 hd1
  have hr2 := exec_inp_rstn hr1 (by simp) h2
  obtain ⟨s3, h3, hd3, hs3⟩ := exec_flushDone_done hr2 hd2
  have hr3 := exec_inp_rstn hr2 (by simp) h3
  obtain ⟨s4, h4, hd4, hs4⟩ := exec_holdGrant_done hr3 hd3
  have hr4 := exec_inp_rstn hr3 (by simp) h4
  rw [execAll_cons h1, execAll_cons h2, execAll_cons h3, execAll_cons h4, execAll_cons (exec_restartEnd_done hr4 hd4), hs4, hs3, hs2, hs1]
  rfl

/-! ## Every other command -/

theorem running_takeDue {s : State} (hr : s.inp.rstn = true) (own : State → State) : running own (takeDue s) = running own s := by
  rw [running, takeDue_inp, if_pos hr, takeDue_takeDue, running, if_pos hr]

/-- A row that does what is due before its own event finds it already done (log entry 2). -/
theorem ownRow_takeDue {s : State} (hr : s.inp.rstn = true) (own : State → State) :
    (.next (running own s) : Host.Outcome State Fault Refusal) = .next (running own (takeDue s)) := by rw [running_takeDue hr]

theorem pinRow_takeDue {s t t' : State} (hr : s.inp.rstn = true) :
    (if s.inp.rstn then .next (running id s) else .next t : Host.Outcome State Fault Refusal)
      = if (takeDue s).inp.rstn then .next (running id (takeDue s)) else .next t' := by
  rw [takeDue_inp, if_pos hr, if_pos hr, running_takeDue hr]

theorem linkRow_takeDue {s t t' : State} (hr : s.inp.rstn = true) (f : State → State) :
    (if s.inp.rstn then .next (f (takeDue s)) else .next t : Host.Outcome State Fault Refusal)
      = if (takeDue s).inp.rstn then .next (f (takeDue (takeDue s))) else .next t' := by
  rw [takeDue_inp, if_pos hr, if_pos hr, takeDue_takeDue]

theorem exec_takeDue {s : State} {c : Instr} (hr : s.inp.rstn = true) (h1 : c ≠ .readAnswer) (h2 : c ≠ .waitingPlacementTaken)
    (h3 : c ≠ .flushDone) (h4 : c ≠ .holdGrant) (h5 : c ≠ .restartEnd) (h6 : c ≠ .hreqLow)
    (hreq : s.hpc.state = .idle ∨ ∀ w a l d, c ≠ .hostRequest w a l d) : exec c s = exec c (takeDue s) := by
  cases c with
  | readAnswer | waitingPlacementTaken | flushDone | holdGrant | restartEnd | hreqLow => contradiction
  | hostRequest w a l d =>
    have hi : s.hpc.state = .idle := hreq.resolve_right fun h => h w a l d rfl
    change execHostRequest w a l d s = execHostRequest w a l d (takeDue s)
    simp only [execHostRequest, takeDue_inp, takeDue_hpc_of_idle hi, takeDue_takeDue, if_pos hr, if_pos hi]
  | rstnAssert =>
    change Host.Outcome.next (assertReset s) = .next (assertReset (takeDue s))
    rw [takeDue_frame]
    rfl
  | rstnRelease | mholdDuringReset => exact pinRow_takeDue hr
  | frameStart => exact linkRow_takeDue hr frameStartEvent
  | frameEnd => exact linkRow_takeDue hr frameEndEvent
  | lclkRisingEdge ldi => exact linkRow_takeDue hr (risingEdge ldi)
  | lclkFallingEdge => exact linkRow_takeDue hr fallingEdge
  | idleExpiry | beginItem | strobeWriteComplete | rmwReadComplete | rmwWriteComplete | readComplete | mrdyRelease | readyTimeout
  | secondExpiry | recoverEnd | unsolicitedReady | stuckDrop | stuckEnd | holdRequest | holdWithdraw | holdRelease | unknownCommand
  | readFaultCompletion | readStatus | readFault | readRegion | setWindow | setSurface | setMode | setBand | setScroll | setCursorWindow
  | setCursor | revisitBegin | revisitEnd | enable | disable | flush | setTiming | setMemory | restart => exact ownRow_takeDue hr _

/-- Settles O3: the pass leaves nothing due, is the five rows in turn, and every other command finds it done. -/
theorem dueWorkIsDoneFirst : Obligations.DueWorkIsDoneFirst := by
  intro s
  refine ⟨settled_takeDue s, takeDue_of_settled, execAll_dueRows, fun c => exec_takeDue, ?hreqLow, fun w a l d hr hi => ?request⟩
  case hreqLow =>
    intro hr u ends
    have hrow : exec .hreqLow s = .next (hreqLowEvent u) := if_pos hr
    rw [hrow, hreqLowEvent]
    by_cases h : ends
    · rw [if_pos h, if_pos h, if_pos h]
    · rw [if_neg h, if_neg h, if_neg h]
  case request =>
    change execHostRequest w a l d s = _
    rw [execHostRequest, if_pos hr, if_neg hi, driveRequest]

end Sys2Proof.Machine
end
